-- ==== Sys2Proof/Word.lean ====
section
/-! DEFINITION. The word types of CROSS-CORE (20_memory R92, 30_encoding R130, R131). -/

namespace Sys2Proof

/-- A byte of BUF, of an XOF stream, of a key or a signature. -/
abbrev Byte := BitVec 8

/-- A register of REG or a command word: 32 bits (10_state R32, R77; 30_encoding R130). -/
abbrev Word := BitVec 32

/-- A register field of a command word: four bits, naming one of `x[0]` to `x[15]` (30_encoding R133). -/
abbrev Reg := BitVec 4

/-- The immediate of format I: sixteen bits, unsigned (30_encoding R134). -/
abbrev Imm16 := BitVec 16

/-- The selector of format R: four bits (30_encoding R135). -/
abbrev Sel := BitVec 4

/-- A byte string, the byte of the lowest address first (00_scope R15). -/
abbrev Bytes := List Byte

end Sys2Proof
end

