-- ==== Sys2Proof/Config.lean ====
section
/-! DEFINITION. What the spec leaves to a parameter or to a draw: constants without a body, so that nothing in Lean can
evaluate them or prove a value of them (93_implementation_defined U2, U4, U5, U6). -/

namespace Sys2Proof

/-- The external extendable-output function: security level λ, absorbed bytes and stream index to the stream's byte
(00_scope R16, 20_memory R96, 93 U6). Total and deterministic; nothing else is known of it. DESIGN CHOICE, log 2: safe. -/
opaque Config.xofStream : Nat → Bytes → Nat → Byte

/-- Whether the entropy port answers its `k`-th request or says `Unavailable` (20_memory R97, 93 U5). Log 3: safe. -/
opaque Config.entropyAvailable : Nat → Bool

/-- Byte `j` of the entropy port's answer to its `k`-th request (20_memory R97, 93 U5). Log 3: safe. -/
opaque Config.entropyByte : Nat → Nat → Byte

/-- The unspecified byte of the `k`-th free draw: what a BUF read returns while BUSY (20_memory R104, 93 U2).
Log 6: safe. -/
opaque Config.busyByte : Nat → Byte

/-- The number from which the `k`-th free draw takes the STEP a read of PSEQ shows while a protocol command runs
(10_state R42, 93 U4). Log 7: safe. -/
opaque Config.busyStep : Nat → Nat

end Sys2Proof
end

