-- ==== Sys2Proof/Syntax.lean ====
section
/-! DEFINITION. The fifty commands of CROSS-CORE, one constructor per row of the opcode map (30_encoding R140).
A constructor's arguments are the fields its row uses, in the order A, B, C, D, E, then sel or imm16. -/

namespace Sys2Proof

/-- The commands. Fields a row does not use are no arguments: they must be 0 in the word (30_encoding R141). -/
inductive Instr where
  /-- NOP: no operation (40_system R170). -/
  | nop
  /-- MOVI: load a zero-extended immediate into `x[a]` (40_system R171). -/
  | movi (a : Reg) (imm : Imm16)
  /-- MOVHI: replace the high half of `x[a]` (40_system R172). -/
  | movhi (a : Reg) (imm : Imm16)
  /-- FQADD: `x[a] <- (x[b] + x[c]) mod Q` (41_scalar_field R183). -/
  | fqadd (a b c : Reg)
  /-- FQSUB: `x[a] <- (x[b] - x[c]) mod Q` (41_scalar_field R184). -/
  | fqsub (a b c : Reg)
  /-- FQMUL: `x[a] <- (x[b] * x[c]) mod Q` (41_scalar_field R185). -/
  | fqmul (a b c : Reg)
  /-- FQNORM: one conditional subtraction of Q (41_scalar_field R186). -/
  | fqnorm (a b : Reg)
  /-- FQINV: inverse modulo Q (41_scalar_field R188). -/
  | fqinv (a b : Reg)
  /-- R2F: restricted-to-field map `g^e mod Q` (41_scalar_field R189). -/
  | r2f (a b : Reg)
  /-- INGRP: membership in the subgroup of g (41_scalar_field R190). -/
  | ingrp (a b : Reg)
  /-- F2R: field-to-restricted map (discrete logarithm) (41_scalar_field R191). -/
  | f2r (a b : Reg)
  /-- FZADD: `x[a] <- (x[b] + x[c]) mod Z` (41_scalar_field R193). -/
  | fzadd (a b c : Reg)
  /-- FZSUB: `x[a] <- (x[b] - x[c]) mod Z` (41_scalar_field R194). -/
  | fzsub (a b c : Reg)
  /-- FZMUL: `x[a] <- (x[b] * x[c]) mod Z` (41_scalar_field R195). -/
  | fzmul (a b c : Reg)
  /-- FZNORM: one conditional subtraction of Z (41_scalar_field R196). -/
  | fznorm (a b : Reg)
  /-- FZINV: inverse modulo Z (41_scalar_field R197). -/
  | fzinv (a b : Reg)
  /-- VQADD: pointwise sum over Fq (42_vector_matrix R211). -/
  | vqadd (a b c d : Reg)
  /-- VQSUB: pointwise difference over Fq (42_vector_matrix R212). -/
  | vqsub (a b c d : Reg)
  /-- VQMUL: pointwise product over Fq (42_vector_matrix R213). -/
  | vqmul (a b c d : Reg)
  /-- VQNORM: canonicalisation of a vector modulo Q (42_vector_matrix R214). -/
  | vqnorm (a b d : Reg)
  /-- VQSCA: scaled combination `a + beta * b` over Fq; `x[e]` is beta (42_vector_matrix R215). -/
  | vqsca (a b c d e : Reg)
  /-- VR2F: restricted-to-field map of a vector (42_vector_matrix R218). -/
  | vr2f (a b d : Reg)
  /-- VINGRP: membership test of a whole vector, the result in `x[a]` (42_vector_matrix R219). -/
  | vingrp (a b d : Reg)
  /-- VF2R: field-to-restricted map of a vector (42_vector_matrix R222). -/
  | vf2r (a b d : Reg)
  /-- VZSUB: pointwise difference over Fz (42_vector_matrix R216). -/
  | vzsub (a b c d : Reg)
  /-- VZNORM: canonicalisation of a vector modulo Z (42_vector_matrix R217). -/
  | vznorm (a b d : Reg)
  /-- SYNQ: syndrome of an Fq vector (42_vector_matrix R223). -/
  | synq (a b c : Reg)
  /-- SYNR: syndrome of a restricted vector (42_vector_matrix R224). -/
  | synr (a b c : Reg)
  /-- EXPZ: expansion through W_mat (RSDPG only) (42_vector_matrix R225). -/
  | expz (a b c : Reg)
  /-- XINIT: open an XOF session (43_xof_sampler R252). -/
  | xinit
  /-- XABS: absorb bytes of BUF (43_xof_sampler R253). -/
  | xabs (b c : Reg)
  /-- XABSI: absorb a 16-bit immediate (43_xof_sampler R254). -/
  | xabsi (imm : Imm16)
  /-- XFIN: end of the input (43_xof_sampler R255). -/
  | xfin
  /-- XSQZ: extract bytes (43_xof_sampler R256). -/
  | xsqz (a b : Reg)
  /-- HASH: the fixed-digest hash (43_xof_sampler R257). -/
  | hash (a b c : Reg)
  /-- SMPQ: sample a vector over [0, Q) (43_xof_sampler R262). -/
  | smpq (a d : Reg)
  /-- SMPQS: sample a vector over [1, Q-1] (43_xof_sampler R263). -/
  | smpqs (a d : Reg)
  /-- SMPZ: sample a vector over [0, Z) (43_xof_sampler R264). -/
  | smpz (a d : Reg)
  /-- FWEXP: expand a digest into the reveal bitmap (43_xof_sampler R266). -/
  | fwexp (a b : Reg)
  /-- PACK: pack a vector; `sel` 0 is `.Q`, 1 is `.Z` (44_codec R301). -/
  | pack (a b d : Reg) (sel : Sel)
  /-- UNPACK: unpack a vector; `sel` 0 is `.Q`, 1 is `.Z` (44_codec R302). -/
  | unpack (a b d : Reg) (sel : Sel)
  /-- STBUILD: derive the T round seeds (45_seed_tree R323). -/
  | stbuild (a b c : Reg)
  /-- STDISC: disclose the seeds a bitmap marks; the count in `x[e]` (45_seed_tree R324). -/
  | stdisc (a b c d e : Reg)
  /-- STREB: rebuild the disclosed round seeds; `x[e]` is the claimed count (45_seed_tree R325). -/
  | streb (a b c d e : Reg)
  /-- MTROOT: Merkle root (46_merkle R352). -/
  | mtroot (a b : Reg)
  /-- MTPROOF: Merkle batch proof; the count in `x[e]` (46_merkle R353). -/
  | mtproof (a b d e : Reg)
  /-- MTRECOMP: recompute the root from a proof; `x[e]` is the claimed count (46_merkle R354). -/
  | mtrecomp (a b c d e : Reg)
  /-- KEYGEN: draw a key pair (47_protocol R392). -/
  | keygen (a b : Reg)
  /-- SIGN: sign a message (47_protocol R393). -/
  | sign (a b c d : Reg)
  /-- VERIFY: verify a signature; `x[a]` is its length (47_protocol R394). -/
  | verify (a b c d e : Reg)
deriving DecidableEq, Repr

end Sys2Proof
end

