-- ==== Sys2Proof/WellFormed.lean ====
section
/-! DEFINITION. Which instructions are well formed: those some legal word encodes. -/

namespace Sys2Proof

/-- The one legality rule the types of the fields do not already carry: `sel` of PACK and UNPACK is 0 (`.Q`) or 1
(`.Z`), bits 3:1 being 0 (30_encoding R135). Registers are four-bit fields and immediates sixteen-bit ones, all of
whose values are legal (30_encoding R133, R134). -/
def Instr.wellFormed : Instr → Bool
  | .pack _ _ _ sel => decide (sel.toNat ≤ 1)
  | .unpack _ _ _ sel => decide (sel.toNat ≤ 1)
  | .nop | .movi _ _ | .movhi _ _ | .fqadd _ _ _ | .fqsub _ _ _ | .fqmul _ _ _ | .fqnorm _ _ | .fqinv _ _
  | .r2f _ _ | .ingrp _ _ | .f2r _ _ | .fzadd _ _ _ | .fzsub _ _ _ | .fzmul _ _ _ | .fznorm _ _ | .fzinv _ _
  | .vqadd _ _ _ _ | .vqsub _ _ _ _ | .vqmul _ _ _ _ | .vqnorm _ _ _ | .vqsca _ _ _ _ _ | .vr2f _ _ _
  | .vingrp _ _ _ | .vf2r _ _ _ | .vzsub _ _ _ _ | .vznorm _ _ _ | .synq _ _ _ | .synr _ _ _ | .expz _ _ _
  | .xinit | .xabs _ _ | .xabsi _ | .xfin | .xsqz _ _ | .hash _ _ _ | .smpq _ _ | .smpqs _ _ | .smpz _ _
  | .fwexp _ _ | .stbuild _ _ _ | .stdisc _ _ _ _ _ | .streb _ _ _ _ _ | .mtroot _ _ | .mtproof _ _ _ _
  | .mtrecomp _ _ _ _ _ | .keygen _ _ | .sign _ _ _ _ | .verify _ _ _ _ _ => true

end Sys2Proof
end

