-- ==== Sys2Proof/Decode.lean ====
section
/-! DEFINITION. The decoder and the encoder of command words (30_encoding R130 to R144, R162), the opcode map as
mask and pattern rows, and the host's reading of a table word. -/

namespace Sys2Proof

/-- Bits 31:24 of a word: the opcode, which alone selects the command and its format (30_encoding R130). -/
def opcodeOf (w : Word) : BitVec 8 := w.extractLsb' 24 8
/-- Field A, bits 23:20 (30_encoding R131, R132). -/
def fieldA (w : Word) : Reg := w.extractLsb' 20 4
/-- Field B, bits 19:16; the field called zero in format I. -/
def fieldB (w : Word) : Reg := w.extractLsb' 16 4
/-- Field C, bits 15:12. -/
def fieldC (w : Word) : Reg := w.extractLsb' 12 4
/-- Field D, bits 11:8. -/
def fieldD (w : Word) : Reg := w.extractLsb' 8 4
/-- Field E, bits 7:4. -/
def fieldE (w : Word) : Reg := w.extractLsb' 4 4
/-- The selector, bits 3:0. -/
def fieldSel (w : Word) : Sel := w.extractLsb' 0 4
/-- The immediate of format I, bits 15:0 (30_encoding R134). -/
def fieldImm (w : Word) : Imm16 := w.extractLsb' 0 16

/-- Why a word is illegal: its opcode is not in the opcode map (30_encoding R142), or a field its command does not use,
or `sel` outside its legal values, is not 0 (R141). Both fault with ERR_ILLEGAL. -/
inductive DecodeError where
  | undefinedOpcode
  | fieldNotZero
deriving DecidableEq, Repr

/-! One reader per set of used fields: the instruction when every unused field is 0, an error otherwise
(30_encoding R141). -/

/-- Reads a word whose used fields are none. -/
def readNone (f : Instr) (w : Word) : Except DecodeError Instr :=
  if fieldA w = 0 ∧ fieldB w = 0 ∧ fieldC w = 0 ∧ fieldD w = 0 ∧ fieldE w = 0 ∧ fieldSel w = 0 then .ok f else .error .fieldNotZero

/-- Reads a word whose used fields are A imm16. -/
def readAI (f : Reg → Imm16 → Instr) (w : Word) : Except DecodeError Instr :=
  if fieldB w = 0 then .ok (f (fieldA w) (fieldImm w)) else .error .fieldNotZero

/-- Reads a word whose used fields are A B C. -/
def readABC (f : Reg → Reg → Reg → Instr) (w : Word) : Except DecodeError Instr :=
  if fieldD w = 0 ∧ fieldE w = 0 ∧ fieldSel w = 0 then .ok (f (fieldA w) (fieldB w) (fieldC w)) else .error .fieldNotZero

/-- Reads a word whose used fields are A B. -/
def readAB (f : Reg → Reg → Instr) (w : Word) : Except DecodeError Instr :=
  if fieldC w = 0 ∧ fieldD w = 0 ∧ fieldE w = 0 ∧ fieldSel w = 0 then .ok (f (fieldA w) (fieldB w)) else .error .fieldNotZero

/-- Reads a word whose used fields are A B C D. -/
def readABCD (f : Reg → Reg → Reg → Reg → Instr) (w : Word) : Except DecodeError Instr :=
  if fieldE w = 0 ∧ fieldSel w = 0 then .ok (f (fieldA w) (fieldB w) (fieldC w) (fieldD w)) else .error .fieldNotZero

/-- Reads a word whose used fields are A B D. -/
def readABD (f : Reg → Reg → Reg → Instr) (w : Word) : Except DecodeError Instr :=
  if fieldC w = 0 ∧ fieldE w = 0 ∧ fieldSel w = 0 then .ok (f (fieldA w) (fieldB w) (fieldD w)) else .error .fieldNotZero

/-- Reads a word whose used fields are A B C D E. -/
def readABCDE (f : Reg → Reg → Reg → Reg → Reg → Instr) (w : Word) : Except DecodeError Instr :=
  if fieldSel w = 0 then .ok (f (fieldA w) (fieldB w) (fieldC w) (fieldD w) (fieldE w)) else .error .fieldNotZero

/-- Reads a word whose used fields are B C. -/
def readBC (f : Reg → Reg → Instr) (w : Word) : Except DecodeError Instr :=
  if fieldA w = 0 ∧ fieldD w = 0 ∧ fieldE w = 0 ∧ fieldSel w = 0 then .ok (f (fieldB w) (fieldC w)) else .error .fieldNotZero

/-- Reads a word whose used fields are none imm16. -/
def readI (f : Imm16 → Instr) (w : Word) : Except DecodeError Instr :=
  if fieldA w = 0 ∧ fieldB w = 0 then .ok (f (fieldImm w)) else .error .fieldNotZero

/-- Reads a word whose used fields are A D. -/
def readAD (f : Reg → Reg → Instr) (w : Word) : Except DecodeError Instr :=
  if fieldB w = 0 ∧ fieldC w = 0 ∧ fieldE w = 0 ∧ fieldSel w = 0 then .ok (f (fieldA w) (fieldD w)) else .error .fieldNotZero

/-- Reads a word whose used fields are A B D sel. -/
def readABDS (f : Reg → Reg → Reg → Sel → Instr) (w : Word) : Except DecodeError Instr :=
  if fieldC w = 0 ∧ fieldE w = 0 ∧ (fieldSel w).toNat ≤ 1 then .ok (f (fieldA w) (fieldB w) (fieldD w) (fieldSel w)) else .error .fieldNotZero

/-- Reads a word whose used fields are A B D E. -/
def readABDE (f : Reg → Reg → Reg → Reg → Instr) (w : Word) : Except DecodeError Instr :=
  if fieldC w = 0 ∧ fieldSel w = 0 then .ok (f (fieldA w) (fieldB w) (fieldD w) (fieldE w)) else .error .fieldNotZero

/-- The decoder: total on every word; an error is an illegal word (30_encoding R141, R142), which the sequencer
answers with ERR_ILLEGAL. That EXPZ is illegal in the RSDP variant (R143) depends on P_MODE and stands in its meaning. -/
def decode (w : Word) : Except DecodeError Instr :=
  match (opcodeOf w).toNat with
  | 0x00 => readNone .nop w
  | 0x01 => readAI .movi w
  | 0x02 => readAI .movhi w
  | 0x10 => readABC .fqadd w
  | 0x11 => readABC .fqsub w
  | 0x12 => readABC .fqmul w
  | 0x13 => readAB .fqnorm w
  | 0x14 => readAB .fqinv w
  | 0x15 => readAB .r2f w
  | 0x16 => readAB .ingrp w
  | 0x17 => readAB .f2r w
  | 0x18 => readABC .fzadd w
  | 0x19 => readABC .fzsub w
  | 0x1A => readABC .fzmul w
  | 0x1B => readAB .fznorm w
  | 0x1C => readAB .fzinv w
  | 0x20 => readABCD .vqadd w
  | 0x21 => readABCD .vqsub w
  | 0x22 => readABCD .vqmul w
  | 0x23 => readABD .vqnorm w
  | 0x24 => readABCDE .vqsca w
  | 0x25 => readABD .vr2f w
  | 0x26 => readABD .vingrp w
  | 0x27 => readABD .vf2r w
  | 0x28 => readABCD .vzsub w
  | 0x29 => readABD .vznorm w
  | 0x2A => readABC .synq w
  | 0x2B => readABC .synr w
  | 0x2C => readABC .expz w
  | 0x30 => readNone .xinit w
  | 0x31 => readBC .xabs w
  | 0x32 => readI .xabsi w
  | 0x33 => readNone .xfin w
  | 0x34 => readAB .xsqz w
  | 0x35 => readABC .hash w
  | 0x36 => readAD .smpq w
  | 0x37 => readAD .smpqs w
  | 0x38 => readAD .smpz w
  | 0x39 => readAB .fwexp w
  | 0x40 => readABDS .pack w
  | 0x41 => readABDS .unpack w
  | 0x50 => readABC .stbuild w
  | 0x51 => readABCDE .stdisc w
  | 0x52 => readABCDE .streb w
  | 0x58 => readAB .mtroot w
  | 0x59 => readABDE .mtproof w
  | 0x5A => readABCDE .mtrecomp w
  | 0x60 => readAB .keygen w
  | 0x61 => readABCD .sign w
  | 0x62 => readABCDE .verify w
  | _ => .error .undefinedOpcode

/-- Assembles a word of format R: opcode·2^24 + A·2^20 + B·2^16 + C·2^12 + D·2^8 + E·2^4 + sel (30_encoding R162). -/
def wordR (op : Nat) (a b c d e : Reg) (sel : Sel) : Word :=
  BitVec.ofNat 32 (op * 2 ^ 24 + a.toNat * 2 ^ 20 + b.toNat * 2 ^ 16 + c.toNat * 2 ^ 12 + d.toNat * 2 ^ 8
    + e.toNat * 2 ^ 4 + sel.toNat)

/-- Assembles a word of format I: opcode·2^24 + A·2^20 + imm16 (30_encoding R162). -/
def wordI (op : Nat) (a : Reg) (imm : Imm16) : Word :=
  BitVec.ofNat 32 (op * 2 ^ 24 + a.toNat * 2 ^ 20 + imm.toNat)

/-- The word of a command (30_encoding R140, R162). -/
def encode : Instr → Word
  | .nop => wordR 0x00 0 0 0 0 0 0
  | .movi a imm => wordI 0x01 a imm
  | .movhi a imm => wordI 0x02 a imm
  | .fqadd a b c => wordR 0x10 a b c 0 0 0
  | .fqsub a b c => wordR 0x11 a b c 0 0 0
  | .fqmul a b c => wordR 0x12 a b c 0 0 0
  | .fqnorm a b => wordR 0x13 a b 0 0 0 0
  | .fqinv a b => wordR 0x14 a b 0 0 0 0
  | .r2f a b => wordR 0x15 a b 0 0 0 0
  | .ingrp a b => wordR 0x16 a b 0 0 0 0
  | .f2r a b => wordR 0x17 a b 0 0 0 0
  | .fzadd a b c => wordR 0x18 a b c 0 0 0
  | .fzsub a b c => wordR 0x19 a b c 0 0 0
  | .fzmul a b c => wordR 0x1A a b c 0 0 0
  | .fznorm a b => wordR 0x1B a b 0 0 0 0
  | .fzinv a b => wordR 0x1C a b 0 0 0 0
  | .vqadd a b c d => wordR 0x20 a b c d 0 0
  | .vqsub a b c d => wordR 0x21 a b c d 0 0
  | .vqmul a b c d => wordR 0x22 a b c d 0 0
  | .vqnorm a b d => wordR 0x23 a b 0 d 0 0
  | .vqsca a b c d e => wordR 0x24 a b c d e 0
  | .vr2f a b d => wordR 0x25 a b 0 d 0 0
  | .vingrp a b d => wordR 0x26 a b 0 d 0 0
  | .vf2r a b d => wordR 0x27 a b 0 d 0 0
  | .vzsub a b c d => wordR 0x28 a b c d 0 0
  | .vznorm a b d => wordR 0x29 a b 0 d 0 0
  | .synq a b c => wordR 0x2A a b c 0 0 0
  | .synr a b c => wordR 0x2B a b c 0 0 0
  | .expz a b c => wordR 0x2C a b c 0 0 0
  | .xinit => wordR 0x30 0 0 0 0 0 0
  | .xabs b c => wordR 0x31 0 b c 0 0 0
  | .xabsi imm => wordI 0x32 0 imm
  | .xfin => wordR 0x33 0 0 0 0 0 0
  | .xsqz a b => wordR 0x34 a b 0 0 0 0
  | .hash a b c => wordR 0x35 a b c 0 0 0
  | .smpq a d => wordR 0x36 a 0 0 d 0 0
  | .smpqs a d => wordR 0x37 a 0 0 d 0 0
  | .smpz a d => wordR 0x38 a 0 0 d 0 0
  | .fwexp a b => wordR 0x39 a b 0 0 0 0
  | .pack a b d sel => wordR 0x40 a b 0 d 0 sel
  | .unpack a b d sel => wordR 0x41 a b 0 d 0 sel
  | .stbuild a b c => wordR 0x50 a b c 0 0 0
  | .stdisc a b c d e => wordR 0x51 a b c d e 0
  | .streb a b c d e => wordR 0x52 a b c d e 0
  | .mtroot a b => wordR 0x58 a b 0 0 0 0
  | .mtproof a b d e => wordR 0x59 a b 0 d e 0
  | .mtrecomp a b c d e => wordR 0x5A a b c d e 0
  | .keygen a b => wordR 0x60 a b 0 0 0 0
  | .sign a b c d => wordR 0x61 a b c d 0 0
  | .verify a b c d e => wordR 0x62 a b c d e 0

/-- A row of the opcode map: a word is the command exactly when `w AND mask = pattern` (30_encoding R140). -/
structure OpcodeRow where
  mnemonic : String
  pattern : Word
  mask : Word
deriving DecidableEq, Repr

/-- The fifty rows of the opcode map, as the spec prints match and mask (30_encoding R140). -/
def opcodeRows : List OpcodeRow :=
  [⟨"NOP", 0x00000000#32, 0xFFFFFFFF#32⟩,
   ⟨"MOVI", 0x01000000#32, 0xFF0F0000#32⟩,
   ⟨"MOVHI", 0x02000000#32, 0xFF0F0000#32⟩,
   ⟨"FQADD", 0x10000000#32, 0xFF000FFF#32⟩,
   ⟨"FQSUB", 0x11000000#32, 0xFF000FFF#32⟩,
   ⟨"FQMUL", 0x12000000#32, 0xFF000FFF#32⟩,
   ⟨"FQNORM", 0x13000000#32, 0xFF00FFFF#32⟩,
   ⟨"FQINV", 0x14000000#32, 0xFF00FFFF#32⟩,
   ⟨"R2F", 0x15000000#32, 0xFF00FFFF#32⟩,
   ⟨"INGRP", 0x16000000#32, 0xFF00FFFF#32⟩] ++
  [⟨"F2R", 0x17000000#32, 0xFF00FFFF#32⟩,
   ⟨"FZADD", 0x18000000#32, 0xFF000FFF#32⟩,
   ⟨"FZSUB", 0x19000000#32, 0xFF000FFF#32⟩,
   ⟨"FZMUL", 0x1A000000#32, 0xFF000FFF#32⟩,
   ⟨"FZNORM", 0x1B000000#32, 0xFF00FFFF#32⟩,
   ⟨"FZINV", 0x1C000000#32, 0xFF00FFFF#32⟩,
   ⟨"VQADD", 0x20000000#32, 0xFF0000FF#32⟩,
   ⟨"VQSUB", 0x21000000#32, 0xFF0000FF#32⟩,
   ⟨"VQMUL", 0x22000000#32, 0xFF0000FF#32⟩,
   ⟨"VQNORM", 0x23000000#32, 0xFF00F0FF#32⟩] ++
  [⟨"VQSCA", 0x24000000#32, 0xFF00000F#32⟩,
   ⟨"VR2F", 0x25000000#32, 0xFF00F0FF#32⟩,
   ⟨"VINGRP", 0x26000000#32, 0xFF00F0FF#32⟩,
   ⟨"VF2R", 0x27000000#32, 0xFF00F0FF#32⟩,
   ⟨"VZSUB", 0x28000000#32, 0xFF0000FF#32⟩,
   ⟨"VZNORM", 0x29000000#32, 0xFF00F0FF#32⟩,
   ⟨"SYNQ", 0x2A000000#32, 0xFF000FFF#32⟩,
   ⟨"SYNR", 0x2B000000#32, 0xFF000FFF#32⟩,
   ⟨"EXPZ", 0x2C000000#32, 0xFF000FFF#32⟩,
   ⟨"XINIT", 0x30000000#32, 0xFFFFFFFF#32⟩] ++
  [⟨"XABS", 0x31000000#32, 0xFFF00FFF#32⟩,
   ⟨"XABSI", 0x32000000#32, 0xFFFF0000#32⟩,
   ⟨"XFIN", 0x33000000#32, 0xFFFFFFFF#32⟩,
   ⟨"XSQZ", 0x34000000#32, 0xFF00FFFF#32⟩,
   ⟨"HASH", 0x35000000#32, 0xFF000FFF#32⟩,
   ⟨"SMPQ", 0x36000000#32, 0xFF0FF0FF#32⟩,
   ⟨"SMPQS", 0x37000000#32, 0xFF0FF0FF#32⟩,
   ⟨"SMPZ", 0x38000000#32, 0xFF0FF0FF#32⟩,
   ⟨"FWEXP", 0x39000000#32, 0xFF00FFFF#32⟩,
   ⟨"PACK", 0x40000000#32, 0xFF00F0FE#32⟩] ++
  [⟨"UNPACK", 0x41000000#32, 0xFF00F0FE#32⟩,
   ⟨"STBUILD", 0x50000000#32, 0xFF000FFF#32⟩,
   ⟨"STDISC", 0x51000000#32, 0xFF00000F#32⟩,
   ⟨"STREB", 0x52000000#32, 0xFF00000F#32⟩,
   ⟨"MTROOT", 0x58000000#32, 0xFF00FFFF#32⟩,
   ⟨"MTPROOF", 0x59000000#32, 0xFF00F00F#32⟩,
   ⟨"MTRECOMP", 0x5A000000#32, 0xFF00000F#32⟩,
   ⟨"KEYGEN", 0x60000000#32, 0xFF00FFFF#32⟩,
   ⟨"SIGN", 0x61000000#32, 0xFF0000FF#32⟩,
   ⟨"VERIFY", 0x62000000#32, 0xFF00000F#32⟩]

/-- The instruction the decoder reads from an instruction whose bits are `w`, numbered as spec/opcode_table.json
numbers them; every bit above the first `nbits` is 0. A command is one 32-bit word (30_encoding R130), which the host
writes whole to CMD, so no byte order enters. -/
def decodeTableWord (nbits w : Nat) : Option Instr :=
  match decode (BitVec.ofNat 32 (w % 2 ^ nbits)) with
  | .ok i => some i
  | .error _ => none

end Sys2Proof
end

