-- ==== Sys2Proof/Machine/State.lean ====
section
/-! DEFINITION. The state of CROSS-CORE: every piece of architectural state of 10_state R31, the command in progress
(R73), and the model's own fields, which stand for the outside world. Plain data. -/

namespace Sys2Proof.Machine

/-- The phase of the XOF context (10_state R69, R50). -/
inductive Phase where
  | idle | absorb | squeeze
deriving DecidableEq, Repr

/-- The fifteen parameter registers, in the order of their offsets 0x080 to 0x0B8 (10_state R51 to R66). -/
structure Params where
  /-- P_MODE: bit 0 VARIANT, bit 1 FLAT (R52). -/
  mode : Word
  /-- P_LAMBDA (R53). -/
  lambda : Word
  /-- P_Q (R54). -/
  q : Word
  /-- P_Z (R55). -/
  z : Word
  /-- P_G (R56). -/
  g : Word
  /-- P_N (R57). -/
  n : Word
  /-- P_K (R58). -/
  k : Word
  /-- P_M (R59). -/
  m : Word
  /-- P_T (R60). -/
  t : Word
  /-- P_W (R61). -/
  w : Word
  /-- P_SEEDB (R62). -/
  seedb : Word
  /-- P_SALTB (R63). -/
  saltb : Word
  /-- P_DIGB (R64). -/
  digb : Word
  /-- P_STMAX (R65). -/
  stmax : Word
  /-- P_MTMAX (R66). -/
  mtmax : Word
deriving DecidableEq, Repr

/-- One access of the host or the platform (20_memory R90, 70_reset R500). -/
inductive HostAccess where
  /-- `RegRead(off)`. -/
  | regRead (off : Nat)
  /-- `RegWrite(off, v)`; at offset 0x010 it is the CMD write that issues the command word `v` (10_state R41). -/
  | regWrite (off : Nat) (v : Word)
  /-- `BufRead(addr, n)`. -/
  | bufRead (addr n : Nat)
  /-- `BufWrite(addr, n, s)`, n being the length of `data`. -/
  | bufWrite (addr : Nat) (data : Bytes)
  /-- The platform's reset input (70_reset R500). -/
  | hardReset
deriving DecidableEq, Repr

/-- A host access still to come. `whileBusy` says that the host performs it before the command then in progress has
completed: how many accesses land there is timing, which the spec leaves open (70_reset R505), so the script says it.
DESIGN CHOICE, log 1: safe, every interleaving is some script. -/
structure HostEvent where
  whileBusy : Bool
  access : HostAccess
deriving DecidableEq, Repr

/-- What the last host read delivered. The model's own, log 17. -/
inductive Reply where
  | nothing
  | word (w : Word)
  | bytes (bs : Bytes)
deriving DecidableEq, Repr

/-- A piece of the XOF parameter that an integrator or a test bench has fixed: the first bytes of the stream of one
(level, input) pair. The model's own, log 2. -/
structure XofAnswer where
  level : Nat
  input : Bytes
  stream : Bytes
deriving DecidableEq, Repr

/-- The fault codes of 60_exceptions R451, in the order in which they are tested (R453). A fault is an exception the
command takes, a next state of the machine (60_exceptions R452). -/
inductive FaultCode where
  | illegal | param | xofseq | addr | range | domain | entropy | bound
deriving DecidableEq, Repr

/-- Reasons for which the machine itself stops. There is none: every command word, host access and fault has an effect
the spec gives (60_exceptions R450, R452), and a draw that never ends keeps BUSY at 1 (43_xof R267). Nothing raises a
value of this type; safe. -/
inductive Fault
deriving DecidableEq, Repr

/-- Refusals. -/
inductive Refusal where
  /-- A command that has no meaning in the model; raised by an arm of `exec` only. No arm raises it. Safe. -/
  | notModelled (mnemonic : String)
deriving DecidableEq, Repr

/-- The whole state (10_state R31), and below it the model's own fields. -/
structure State where
  /-- The general registers (10_state R32). -/
  x : Vector Word 16
  /-- CTRL (10_state R44). -/
  ctrl : Word
  /-- STATUS bits DONE, ERR and OVR (10_state R45); bit 0, BUSY, is the view `running.isSome` (log 11). -/
  status : Word
  /-- ERRCODE (10_state R46). -/
  errcode : Word
  /-- ERRINFO (10_state R47). -/
  errinfo : Word
  /-- FLAGS (10_state R43). -/
  flags : Word
  /-- VFAIL (10_state R49). -/
  vfail : Word
  /-- PSEQ (10_state R42); STEP holds the first step while a protocol command runs (log 7). -/
  pseq : Word
  /-- The parameter registers (10_state R51). -/
  params : Params
  /-- XPH, which XSTAT shows (10_state R69, R50). -/
  xph : Phase
  /-- XIN, the bytes absorbed so far (10_state R69). -/
  xin : Bytes
  /-- XPOS, the stream bytes extracted so far (10_state R69). -/
  xpos : Nat
  /-- BUF in canonical form: addresses strictly rising, no byte 0 listed (10_state R71). -/
  buf : List Host.Cell
  /-- The command word in progress, while BUSY = 1 (10_state R73, R41). -/
  running : Option Word
  /-- BUF_BYTES, fixed at build (00_scope R11, 93 U7). The model's own, log 4. -/
  bufBytes : Nat
  /-- The part of the XOF parameter that is fixed by data (93 U6). The model's own, log 2. -/
  xofKnown : List XofAnswer
  /-- The entropy answers a test bench has fixed; `none` is `Unavailable` (20_memory R97). The model's own, log 3. -/
  entropyIn : List (Option Bytes)
  /-- The number of the next entropy request. The model's own, log 3. -/
  entropyCount : Nat
  /-- The number of the next free value. The model's own, logs 6 and 7. -/
  freeCount : Nat
  /-- How many windows one draw may examine in one step of the model. The model's own, log 5. -/
  attempts : Nat
  /-- The host accesses still to come. The model's own, log 1. -/
  host : List HostEvent
  /-- What the last host read delivered. The model's own, log 17. -/
  reply : Reply
deriving DecidableEq, Repr

/-- Every parameter register 0 (70_reset R501). -/
def Params.reset : Params :=
  ⟨0, 0, 0, 0, 0, 0, 0, 0, 0, 0, 0, 0, 0, 0, 0⟩

/-- The machine right after reset: every register 0, the XOF context idle and empty, every byte of BUF 0
(70_reset R501, 10_state R77). The model's own fields have the values of logs 1 to 7 and 17 (DESIGN CHOICE). -/
def State.reset : State where
  x := Vector.replicate 16 0
  ctrl := 0
  status := 0
  errcode := 0
  errinfo := 0
  flags := 0
  vfail := 0
  pseq := 0
  params := Params.reset
  xph := .idle
  xin := []
  xpos := 0
  buf := []
  running := none
  bufBytes := 4096
  xofKnown := []
  entropyIn := []
  entropyCount := 0
  freeCount := 0
  attempts := 65536
  host := []
  reply := .nothing

end Sys2Proof.Machine
end

