-- ==== Sys2Proof/Machine/Flags.lean ====
section
/-! DEFINITION. The status bits: the bits of CTRL, STATUS, FLAGS and VFAIL and every computation of one
(10_state R43 to R50, 60_exceptions R456, R457). -/

namespace Sys2Proof.Machine

/-- The word with bit `k` set to `b`, every other bit kept. -/
def setBit (w : Word) (k : Nat) (b : Bool) : Word :=
  if b then w ||| (1#32 <<< k) else w &&& ~~~(1#32 <<< k)

/-! ### CTRL and STATUS (10_state R44, R45) -/

/-- CTRL.IE (10_state R44). -/
def State.ie (s : State) : Bool := s.ctrl.getLsbD 1
/-- CTRL.EIE (10_state R44). -/
def State.eie (s : State) : Bool := s.ctrl.getLsbD 2
/-- STATUS.BUSY: a command is in progress (10_state R45, R41). -/
def State.busy (s : State) : Bool := s.running.isSome
/-- STATUS.DONE (10_state R45). -/
def State.done (s : State) : Bool := s.status.getLsbD 1
/-- STATUS.ERR (10_state R45). -/
def State.err (s : State) : Bool := s.status.getLsbD 2
/-- STATUS.OVR (10_state R45). -/
def State.ovr (s : State) : Bool := s.status.getLsbD 3

/-- Sets STATUS.OVR: a host write was dropped (20_memory R104). -/
def State.setOvr (s : State) : State := { s with status := setBit s.status 3 true }

/-- STATUS as the host reads it: BUSY in bit 0, DONE, ERR, OVR in bits 1 to 3 (10_state R45). -/
def State.statusWord (s : State) : Word := setBit s.status 0 s.busy

/-- The interrupt line, a level: `(DONE and IE) or (ERR and EIE)` (60_exceptions R456). -/
def State.irq (s : State) : Bool := (s.done && s.ie) || (s.err && s.eie)

/-- XSTAT as the host reads it: XPH in bits 1:0 (10_state R50). -/
def Phase.toWord : Phase → Word
  | .idle => 0
  | .absorb => 1
  | .squeeze => 2

/-! ### FLAGS (10_state R43) -/

/-- FLAGS.ACC, bit 0. -/
def State.acc (s : State) : Bool := s.flags.getLsbD 0
/-- FLAGS.GRP, bit 1. -/
def State.grp (s : State) : Bool := s.flags.getLsbD 1
/-- FLAGS.CAN, bit 2. -/
def State.can (s : State) : Bool := s.flags.getLsbD 2
/-- FLAGS.STR, bit 3. -/
def State.str (s : State) : Bool := s.flags.getLsbD 3

/-- Writes FLAGS.ACC; the other bits keep their value. -/
def State.setAcc (s : State) (b : Bool) : State := { s with flags := setBit s.flags 0 b }
/-- Writes FLAGS.GRP; the other bits keep their value. -/
def State.setGrp (s : State) (b : Bool) : State := { s with flags := setBit s.flags 1 b }
/-- Writes FLAGS.CAN; the other bits keep their value. -/
def State.setCan (s : State) (b : Bool) : State := { s with flags := setBit s.flags 2 b }
/-- Writes FLAGS.STR; the other bits keep their value. -/
def State.setStr (s : State) (b : Bool) : State := { s with flags := setBit s.flags 3 b }

/-! ### VFAIL (10_state R49, 60_exceptions R457) -/

/-- VERIFY's failure accumulator: one Boolean per failure class, live inside VERIFY only (10_state R74). -/
structure Verdict where
  malformed : Bool
  membership : Bool
  commitment : Bool
  structural : Bool
deriving DecidableEq, Repr

/-- No failure met: the accumulator is empty. -/
def Verdict.accepts (v : Verdict) : Bool :=
  !v.malformed && !v.membership && !v.commitment && !v.structural

/-- VFAIL's word: MALFORMED bit 0, MEMBERSHIP bit 1, COMMITMENT bit 2, STRUCTURE bit 3 (10_state R49). -/
def Verdict.toWord (v : Verdict) : Word :=
  BitVec.ofNat 32 (v.malformed.toNat + 2 * v.membership.toNat + 4 * v.commitment.toNat + 8 * v.structural.toNat)

/-- ERRCODE's value of a fault (60_exceptions R451). -/
def FaultCode.toNat : FaultCode → Nat
  | .illegal => 1
  | .param => 2
  | .xofseq => 3
  | .addr => 4
  | .range => 5
  | .domain => 6
  | .entropy => 7
  | .bound => 8

/-- The word ERRCODE takes (60_exceptions R451). -/
def FaultCode.toWord (c : FaultCode) : Word := BitVec.ofNat 32 c.toNat

end Sys2Proof.Machine
end

