-- ==== Sys2Proof/Machine/Operands.lean ====
section
/-! DEFINITION. Operands: the parameter set as numbers and its validity, the derived sizes, the operand regions and
their check, and the data formats of BUF (00_scope R12, R15; 10_state R51 to R68; 20_memory R91, R92, R100). -/

namespace Sys2Proof.Machine

/-! ### The parameter set (10_state R52 to R66) -/

/-- P_MODE bit 0: false is RSDP, true is RSDPG (10_state R52). -/
def Params.variant (p : Params) : Bool := p.mode.getLsbD 0
/-- P_MODE bit 1: true is the degenerate non-tree mode of both trees (10_state R52). -/
def Params.flat (p : Params) : Bool := p.mode.getLsbD 1
/-- λ, the security level in bits (10_state R53). -/
def Params.level (p : Params) : Nat := p.lambda.toNat
/-- Q, the modulus of Fq (10_state R54). -/
def Params.Q (p : Params) : Nat := p.q.toNat
/-- Z, the order of the restricted subgroup (10_state R55). -/
def Params.Z (p : Params) : Nat := p.z.toNat
/-- g, the generator of the restricted subgroup (10_state R56). -/
def Params.G (p : Params) : Nat := p.g.toNat
/-- N, the length of Fq vectors (10_state R57). -/
def Params.N (p : Params) : Nat := p.n.toNat
/-- K, the rows of V_tr (10_state R58). -/
def Params.K (p : Params) : Nat := p.k.toNat
/-- M, the length of the short restricted vector (10_state R59). -/
def Params.M (p : Params) : Nat := p.m.toNat
/-- T, the number of rounds and of leaves (10_state R60). -/
def Params.T (p : Params) : Nat := p.t.toNat
/-- W, the number of hidden rounds (10_state R61). -/
def Params.W (p : Params) : Nat := p.w.toNat
/-- SEED_BYTES (10_state R62). -/
def Params.seedBytes (p : Params) : Nat := p.seedb.toNat
/-- SALT_BYTES (10_state R63). -/
def Params.saltBytes (p : Params) : Nat := p.saltb.toNat
/-- DIGEST_BYTES (10_state R64). -/
def Params.digestBytes (p : Params) : Nat := p.digb.toNat
/-- ST_MAX (10_state R65). -/
def Params.stMax (p : Params) : Nat := p.stmax.toNat
/-- MT_MAX (10_state R66). -/
def Params.mtMax (p : Params) : Nat := p.mtmax.toNat

/-- The bounds of `ParamsValid` (10_state R67), all but the order of g. -/
abbrev Params.InBounds (p : Params) : Prop :=
  p.mode.toNat < 4 ∧ p.level % 8 = 0 ∧ 8 ≤ p.level ∧ p.level ≤ 512 ∧ 3 ≤ p.Q ∧ p.Q ≤ 65535 ∧ 2 ≤ p.Z ∧ p.Z ≤ p.Q - 1 ∧
  1 < p.G ∧ p.G < p.Q ∧ 2 ≤ p.N ∧ p.N ≤ 65535 ∧ 1 ≤ p.K ∧ p.K ≤ p.N - 1 ∧
  (p.variant = true → 1 ≤ p.M ∧ p.M ≤ p.N - 1) ∧ 2 ≤ p.T ∧ p.T ≤ 10921 ∧ 1 ≤ p.W ∧ p.W ≤ p.T - 1 ∧
  p.seedBytes = p.level / 8 ∧ 1 ≤ p.saltBytes ∧ p.saltBytes ≤ 255 ∧ 1 ≤ p.digestBytes ∧ p.digestBytes ≤ 255 ∧
  1 ≤ p.stMax ∧ p.stMax ≤ p.T ∧ 1 ≤ p.mtMax ∧ p.mtMax ≤ p.T

/-- `g^Z mod Q = 1` and `g^j mod Q ≠ 1` for 0 < j < Z: the order of g is exactly Z (10_state R67). -/
def Params.orderOk (p : Params) : Bool :=
  p.G ^ p.Z % p.Q == 1 && (List.range p.Z).all fun j => j == 0 || p.G ^ j % p.Q != 1

/-- `ParamsValid` (10_state R67). Primality of Q is not part of it (90 C6). -/
def Params.valid (p : Params) : Bool := decide p.InBounds && p.orderOk

/-! ### Derived sizes (00_scope R12) -/

/-- `BITS(m)`: the least b with `2^b ≥ m` (00_scope R12). -/
def bits (m : Nat) : Nat := if m ≤ 1 then 0 else Nat.log2 (m - 1) + 1

/-- `PK(n, b) = ceil(n·b / 8)`: the bytes of n packed values of b bits (44_codec R300). -/
def packedBytes (n b : Nat) : Nat := (n * b + 7) / 8

/-- `PKQ(n)` (00_scope R12). -/
def Params.pkq (p : Params) (n : Nat) : Nat := packedBytes n (bits p.Q)
/-- `PKZ(n)` (00_scope R12). -/
def Params.pkz (p : Params) (n : Nat) : Nat := packedBytes n (bits p.Z)
/-- L, the length of a restricted vector: N for RSDP, M for RSDPG (00_scope R12). -/
def Params.L (p : Params) : Nat := if p.variant then p.M else p.N
/-- SK_BYTES (00_scope R12). -/
def Params.skBytes (p : Params) : Nat := p.seedBytes
/-- PK_BYTES (00_scope R12). -/
def Params.pkBytes (p : Params) : Nat := p.seedBytes + p.pkq (p.N - p.K)
/-- REC_BYTES, one response record (00_scope R12). -/
def Params.recBytes (p : Params) : Nat := p.pkq p.N + p.pkq p.L + p.digestBytes
/-- SIG_BYTES (00_scope R12). -/
def Params.sigBytes (p : Params) : Nat :=
  p.saltBytes + 2 * p.digestBytes + p.stMax * p.seedBytes + p.mtMax * p.digestBytes + (p.T - p.W) * p.recBytes

/-! ### Operand regions (20_memory R91) -/

/-- An operand region: address and length in bytes (20_memory R91). -/
abbrev Region := Nat × Nat

/-- A region lies inside BUF, on unbounded integers; a region of length 0 always does (20_memory R91). -/
def State.fits (s : State) (r : Region) : Bool := r.2 == 0 || decide (r.1 + r.2 ≤ s.bufBytes)

/-- Every region of a command lies inside BUF (20_memory R91). -/
def State.fitsAll (s : State) (rs : List Region) : Bool := rs.all s.fits

/-! ### Memory cells and the formats of BUF (20_memory R92, R100) -/

/-- The byte at an address; an unlisted address reads 0 (10_state R71). -/
def Memory.get : List Host.Cell → Nat → Byte
  | [], _ => 0
  | (k, v) :: rest, a => if k = a then v else Memory.get rest a

/-- Stores a byte, keeping addresses strictly rising and no byte 0 listed. -/
def Memory.put : List Host.Cell → Nat → Byte → List Host.Cell
  | [], a, b => if b = 0 then [] else [(a, b)]
  | (k, v) :: rest, a, b =>
    if a < k then (if b = 0 then (k, v) :: rest else (a, b) :: (k, v) :: rest)
    else if a = k then (if b = 0 then rest else (a, b) :: rest)
    else (k, v) :: Memory.put rest a b

/-- The canonical form: addresses strictly rising, and no entry equal to what an unlisted address reads as. -/
abbrev Memory.wf (m : List Host.Cell) : Prop := m.Pairwise (fun c d => c.1 < d.1) ∧ ∀ c ∈ m, c.2 ≠ 0

/-- `MemRead(addr, n)` (00_scope R15). -/
def Memory.read (m : List Host.Cell) (addr n : Nat) : Bytes := (List.range n).map fun j => Memory.get m (addr + j)

/-- `MemWrite(addr, n, s)`, n being the length of the string (00_scope R15). -/
def Memory.write : List Host.Cell → Nat → Bytes → List Host.Cell
  | m, _, [] => m
  | m, addr, b :: bs => Memory.write (Memory.put m addr b) (addr + 1) bs

/-- `LE16(v)` (00_scope R14): the low byte first. -/
def le16 (v : Nat) : Bytes := [BitVec.ofNat 8 v, BitVec.ofNat 8 (v / 256)]

/-- `Elem(addr, j)`: the 16-bit element j of the vector at addr, low byte first (00_scope R15). -/
def Memory.elem (m : List Host.Cell) (addr j : Nat) : Nat :=
  (Memory.get m (addr + 2 * j)).toNat + 256 * (Memory.get m (addr + 2 * j + 1)).toNat

/-- `ElemVec(addr, n)` (00_scope R15). -/
def Memory.elems (m : List Host.Cell) (addr n : Nat) : List Nat := (List.range n).map (Memory.elem m addr)

/-- The bytes of an element vector: each element as LE16, in order (20_memory R100). -/
def elemBytes (vs : List Nat) : Bytes := vs.flatMap le16

/-- The bitmap bytes are each 0 or 1 (20_memory R100). -/
def bitmapOk (bs : Bytes) : Bool := bs.all fun c => c == 0 || c == 1

/-- The bitmap of bitmap bytes: true for a hidden round (00_scope R21). -/
def bitmapOf (bs : Bytes) : List Bool := bs.map (· == 1)

/-- The bytes of a bitmap: 1 for a hidden round, 0 for an opened one (00_scope R21). -/
def bitmapBytes (b : List Bool) : Bytes := b.map fun h => if h then 1 else 0

/-- The number of rounds a bitmap marks with 1. -/
def ones (b : List Bool) : Nat := b.count true

/-- Every element lies in `[0, m)` (41_scalar R181: canonical). -/
def allBelow (m : Nat) (vs : List Nat) : Bool := vs.all fun v => decide (v < m)

/-! ### Operands of a command (30_encoding R133) -/

/-- The general register a field names (00_scope R15, 10_state R32). -/
def State.getX (s : State) (r : Reg) : Word := s.x[r.toNat]'r.isLt

/-- The full 32-bit unsigned value of the register a field names (30_encoding R133). -/
def State.val (s : State) (r : Reg) : Nat := (s.getX r).toNat

/-- `MemRead` on BUF. -/
def State.readBytes (s : State) (addr n : Nat) : Bytes := Memory.read s.buf addr n

/-- `ElemVec` on BUF. -/
def State.readElems (s : State) (addr n : Nat) : List Nat := Memory.elems s.buf addr n

/-- One byte of BUF. -/
def State.byteAt (s : State) (a : Nat) : Byte := Memory.get s.buf a

end Sys2Proof.Machine
end

