-- ==== Sys2Proof/Machine/Ops.lean ====
section
/-! DEFINITION. The named operations of the sequencer: writing registers and BUF, the XOF context and the two ports,
taking a fault and returning from one, completing a command, and the frame every command runs in
(10_state R41; 20_memory R96, R97, R101; 60_exceptions R452 to R455; 70_reset R500). -/

namespace Sys2Proof.Machine

/-! ### Registers and BUF -/

/-- `x[r] <- v`: v mod 2^32 (00_scope R15). -/
def State.setX (s : State) (r : Reg) (v : Nat) : State :=
  { s with x := s.x.set r.toNat (BitVec.ofNat 32 v) r.isLt }

/-- `MemWrite` on BUF (00_scope R15). -/
def State.writeBytes (s : State) (addr : Nat) (bs : Bytes) : State :=
  { s with buf := Memory.write s.buf addr bs }

/-- `SetElemVec` on BUF (00_scope R15). -/
def State.writeElems (s : State) (addr : Nat) (vs : List Nat) : State := s.writeBytes addr (elemBytes vs)

/-! ### The XOF context and the XOF port (10_state R69, 20_memory R96) -/

/-- Opens a session: phase ABSORB, nothing absorbed (43_xof R252). -/
def State.xofOpen (s : State) : State := { s with xph := .absorb, xin := [], xpos := 0 }
/-- `XIN <- XIN ∥ bs` (43_xof R253). -/
def State.xofAbsorb (s : State) (bs : Bytes) : State := { s with xin := s.xin ++ bs }
/-- Ends the input: phase SQUEEZE at stream position 0 (43_xof R255). -/
def State.xofFinish (s : State) : State := { s with xph := .squeeze, xpos := 0 }
/-- `XPOS <- p` (43_xof R256, R262). -/
def State.setXpos (s : State) (p : Nat) : State := { s with xpos := p }
/-- The context at its reset value (43_xof R258). -/
def State.xofClear (s : State) : State := { s with xph := .idle, xin := [], xpos := 0 }

/-- `XofStream(λ, input)[k]` (00_scope R16): the byte a test bench has fixed, else the uninterpreted one (log 2). -/
def State.xofStream (s : State) (level : Nat) (input : Bytes) (k : Nat) : Byte :=
  match s.xofKnown.find? (fun a => a.level == level && a.input == input) with
  | some a => a.stream.getD k (Config.xofStream level input k)
  | none => Config.xofStream level input k

/-- The streams at the security level P_LAMBDA holds, by absorbed input (43_xof R250, R259). -/
def State.xof (s : State) (input : Bytes) (k : Nat) : Byte := s.xofStream s.params.level input k

/-- `n` bytes of a stream from position `p` on (00_scope R16: extract). -/
def streamBytes (S : Nat → Byte) (p n : Nat) : Bytes := (List.range n).map fun j => S (p + j)

/-! ### The entropy port (20_memory R97) -/

/-- The port's answer to the next request of `n` bytes: the scripted one if there is one, else a free draw; an answer
that is not `n` bytes long is no answer (log 3). -/
def State.entropyAnswer (s : State) (n : Nat) : Option Bytes :=
  match s.entropyIn with
  | some bs :: _ => if bs.length = n then some bs else none
  | none :: _ => none
  | [] =>
    if Config.entropyAvailable s.entropyCount then some ((List.range n).map (Config.entropyByte s.entropyCount))
    else none

/-- The port has answered one request. -/
def State.entropyNext (s : State) : State :=
  { s with entropyIn := s.entropyIn.tail, entropyCount := s.entropyCount + 1 }

/-! ### Ending a command (10_state R41, 60_exceptions R452 to R455) -/

/-- A command has ended: `BUSY <- 0; DONE <- 1; PSEQ <- 0` (10_state R41, R42). -/
def State.complete (s : State) : State :=
  { s with running := none, pseq := 0, status := setBit s.status 1 true }

/-- Taking a fault: the command ends and, when STATUS.ERR was 0, ERR is set and ERRCODE and ERRINFO record the code and
the command word; nothing else changes (60_exceptions R452, R454). -/
def State.takeFault (s : State) (c : FaultCode) (w : Word) : State :=
  if s.err then s.complete
  else { s.complete with status := setBit (setBit s.status 1 true) 2 true, errcode := c.toWord, errinfo := w }

/-- The return from a fault: the host's write of `v` to STATUS clears the bits of DONE, ERR and OVR it writes 1 to, and
clearing ERR clears ERRCODE and ERRINFO (10_state R45, 60_exceptions R455). -/
def State.clearStatus (s : State) (v : Word) : State :=
  { s with
    status := s.status &&& ~~~(v &&& 0xE#32)
    errcode := if v.getLsbD 2 then 0 else s.errcode
    errinfo := if v.getLsbD 2 then 0 else s.errinfo }

/-- The OP a command word shows in PSEQ while BUSY is 1: 1 KEYGEN, 2 SIGN, 3 VERIFY, 0 for any other opcode (10_state
R42). DESIGN CHOICE, log 22, unsafe: the opcode alone decides (30_encoding R130), so an illegal word with opcode 0x60, 0x61
or 0x62 (an unused field not 0) shows the OP of that opcode until its fault, although R140 and R141 make it no command. -/
def pseqOp (w : Word) : Nat :=
  match (opcodeOf w).toNat with
  | 0x60 => 1
  | 0x61 => 2
  | 0x62 => 3
  | _ => 0

/-- How many steps the protocol command with this OP has: 4 for KEYGEN, 7 for SIGN and VERIFY (47_protocol R399). -/
def pseqSteps (op : Nat) : Nat := if op = 1 then 4 else 7

/-- PSEQ with an OP and a STEP; idle (OP 0) reads 0 (10_state R42). -/
def pseqWord (op step : Nat) : Word := if op = 0 then 0 else BitVec.ofNat 32 (op + 16 * step)

/-- A command word has been taken: BUSY is 1 and PSEQ shows the first step of a protocol command (10_state R41, R42; the
stored step is log 7, the OP of an illegal word log 22). -/
def State.start (s : State) (w : Word) : State := { s with running := some w, pseq := pseqWord (pseqOp w) 1 }

/-- The command has not ended within this step's attempts: BUSY stays 1, nothing else has changed, and the next step
may examine more windows of each draw (43_xof R267, log 5). -/
def State.stayBusy (s : State) (w : Word) : State := { s.start w with attempts := 2 * s.attempts + 1 }

/-! ### The frame of every command (60_exceptions R453, 20_memory R101) -/

/-- A test of a command: the fault it raises and whether the test passes. -/
abbrev Check := FaultCode × Bool

/-- The first failing test, in the order listed (60_exceptions R453). -/
def firstFault : List Check → Option FaultCode
  | [] => none
  | (c, ok) :: rest => if ok then firstFault rest else some c

/-- How a command that has passed its tests goes on. -/
inductive Result where
  /-- It has its effect: the state with every output written. -/
  | effect (t : State)
  /-- It faults late (ERR_ENTROPY, ERR_BOUND); the state differs from the one before by consumed entropy answers only. -/
  | late (c : FaultCode) (t : State)
  /-- A draw has not ended within this step's attempts (43_xof R267). -/
  | pending

/-- Runs a command: the tests in order, the first failing one faults it with no other effect; else its result. `i` gives
the word ERRINFO records (10_state R47), the state passed to the tests being the one before any write. -/
def runCommand (i : Instr) (s : State) (checks : List Check) (r : Result) : Host.Outcome State Fault Refusal :=
  match firstFault checks with
  | some c => .next (s.takeFault c (encode i))
  | none =>
    match r with
    | .effect t => .next t.complete
    | .late c t => .next (t.takeFault c (encode i))
    | .pending => .next (s.stayBusy (encode i))

/-- The test `ParamsValid` (10_state R67). -/
def State.paramCheck (s : State) : Check := (.param, s.params.valid)

/-- The test that the XOF context is in a phase (43_xof R259). -/
def State.phaseCheck (s : State) (ph : Phase) : Check := (.xofseq, s.xph == ph)

/-- The test that every operand region lies inside BUF (20_memory R91). -/
def State.addrCheck (s : State) (rs : List Region) : Check := (.addr, s.fitsAll rs)

/-! ### Reset (70_reset R500, R501) -/

/-- Either reset: every piece of the block's state at its reset value; the outside world (the model's own fields) is
not the block's and is kept (log 12). -/
def State.resetBlock (s : State) : State :=
  { State.reset with
    bufBytes := s.bufBytes
    xofKnown := s.xofKnown
    entropyIn := s.entropyIn
    entropyCount := s.entropyCount
    freeCount := s.freeCount
    attempts := s.attempts
    host := s.host
    reply := s.reply }

end Sys2Proof.Machine
end

