-- ==== Sys2Proof/Machine/Codec.lean ====
section
/-! DEFINITION. The bit-packing codec: the packed format, PACK and UNPACK (44_codec R300 to R304). -/

namespace Sys2Proof.Machine

/-- The bit stream of packed values as a number, its bit k being stream bit k: value j starts at bit `j·b`
(44_codec R300). The values are below `2^b`. -/
def packNat (b : Nat) : List Nat → Nat
  | [] => 0
  | v :: vs => v + 2 ^ b * packNat b vs

/-- The bytes of a bit stream: stream bit k is bit `k mod 8` of byte `k div 8` (44_codec R300). -/
def natBytes (n len : Nat) : Bytes := (List.range len).map fun k => BitVec.ofNat 8 (n / 2 ^ (8 * k))

/-- The bit stream of a byte string as a number (44_codec R300). -/
def bytesNat : Bytes → Nat
  | [] => 0
  | c :: cs => c.toNat + 2 ^ 8 * bytesNat cs

/-- The packed form of values of `b` bits: `PK(n, b)` bytes, the padding bits 0 (44_codec R300, R301). -/
def packVec (b : Nat) (vs : List Nat) : Bytes := natBytes (packNat b vs) (packedBytes vs.length b)

/-- The n values of `b` bits a packed string decodes to (44_codec R302). -/
def unpackVec (b n : Nat) (bs : Bytes) : List Nat :=
  (List.range n).map fun j => bytesNat bs / 2 ^ (j * b) % 2 ^ b

/-- A packed string is canonical: every value below `m` and every padding bit 0 (44_codec R302: CAN). -/
def packedCanonical (m n : Nat) (bs : Bytes) : Bool :=
  allBelow m (unpackVec (bits m) n bs) && bytesNat bs / 2 ^ (n * bits m) == 0

/-- `packQ(v)`: the packed form at width BITS(Q) (47_protocol, 44_codec R304). -/
def packQ (p : Params) (vs : List Nat) : Bytes := packVec (bits p.Q) vs

/-- The modulus `sel` chooses: 0 is Q, 1 is Z (30_encoding R135). -/
def Params.selected (p : Params) (sel : Sel) : Nat := if sel.toNat = 0 then p.Q else p.Z

/-- PACK (44_codec R301). `sel` above 1 is an illegal word (30_encoding R135); no decoded word has it. -/
def execPack (a b d : Reg) (sel : Sel) (s : State) : Host.Outcome State Fault Refusal :=
  let n := s.val d
  let m := s.params.selected sel
  let vs := s.readElems (s.val b) n
  runCommand (.pack a b d sel) s
    [(.illegal, decide (sel.toNat ≤ 1)), s.paramCheck,
      s.addrCheck [(s.val a, packedBytes n (bits m)), (s.val b, 2 * n)], (.range, allBelow m vs)]
    (.effect (s.writeBytes (s.val a) (packVec (bits m) vs)))

/-- UNPACK (44_codec R302): the values are written as decoded; CAN tells whether the encoding is canonical. -/
def execUnpack (a b d : Reg) (sel : Sel) (s : State) : Host.Outcome State Fault Refusal :=
  let n := s.val d
  let m := s.params.selected sel
  let bs := s.readBytes (s.val b) (packedBytes n (bits m))
  runCommand (.unpack a b d sel) s
    [(.illegal, decide (sel.toNat ≤ 1)), s.paramCheck,
      s.addrCheck [(s.val a, 2 * n), (s.val b, packedBytes n (bits m))]]
    (.effect ((s.writeElems (s.val a) (unpackVec (bits m) n bs)).setCan (packedCanonical m n bs)))

end Sys2Proof.Machine
end

