-- ==== Sys2Proof/Machine/Sampler.lean ====
section
/-! DEFINITION. The rejection sampler (43_xof R260 to R268): the shift register, one draw, a sampling call, and the
fixed-weight shuffle. A draw examines at most `attempts` windows; `none` says that it has not ended by then (log 5). -/

namespace Sys2Proof.Machine

/-- The sampler's working state inside one call: stream position, the 64-bit shift register SR, and NB, the count of
its valid bits (10_state R70, 43_xof R260). -/
structure Sampler where
  pos : Nat
  sr : BitVec 64
  nb : Nat
deriving DecidableEq, Repr

/-- The start of a call at stream position `p`: SR = 0, NB = 0 (43_xof R261). -/
def Sampler.fresh (p : Nat) : Sampler := ⟨p, 0, 0⟩

/-- The 32-bit chunk of the four stream bytes from position `p` on, the first byte least significant (43_xof R260). -/
def chunkAt (S : Nat → Byte) (p : Nat) : BitVec 64 :=
  BitVec.ofNat 64 ((S p).toNat + 2 ^ 8 * (S (p + 1)).toNat + 2 ^ 16 * (S (p + 2)).toNat + 2 ^ 24 * (S (p + 3)).toNat)

/-- Step (1) of a draw: when NB ≤ 32, one chunk is fetched above the valid bits (43_xof R260). -/
def Sampler.refill (S : Nat → Byte) (d : Sampler) : Sampler :=
  if d.nb ≤ 32 then ⟨d.pos + 4, d.sr ||| (chunkAt S d.pos <<< d.nb), d.nb + 32⟩ else d

/-- The window of `b` bits at the low end of SR (43_xof R260, step 2). -/
def Sampler.window (d : Sampler) (b : Nat) : Nat := d.sr.toNat % 2 ^ b

/-- Drops the `b` lowest bits (43_xof R260, steps 3 and 4). -/
def Sampler.drop (d : Sampler) (b : Nat) : Sampler := ⟨d.pos, d.sr >>> b, d.nb - b⟩

/-- `Draw(m)` (43_xof R260): a window below m is taken, else one bit is dropped and the draw goes on. -/
def draw (S : Nat → Byte) (m : Nat) : Nat → Sampler → Option (Nat × Sampler)
  | 0, _ => none
  | tries + 1, d =>
    let e := d.refill S
    let v := e.window (bits m)
    if v < m then some (v, e.drop (bits m)) else draw S m tries (e.drop 1)

/-- Draws one after the other, below each bound in turn, with one shared shift register (43_xof R261, R266). -/
def drawMany (S : Nat → Byte) (tries : Nat) : List Nat → Sampler → Option (List Nat × Sampler)
  | [], d => some ([], d)
  | m :: ms, d =>
    match draw S m tries d with
    | none => none
    | some (v, e) =>
      match drawMany S tries ms e with
      | none => none
      | some (vs, f) => some (v :: vs, f)

/-- `Sample(S, m, n, off)` from stream position `p`: the values and the position reached; the bits left in SR are
discarded (43_xof R261). -/
def sample (S : Nat → Byte) (tries m n off p : Nat) : Option (List Nat × Nat) :=
  match drawMany S tries (List.replicate n m) (Sampler.fresh p) with
  | none => none
  | some (vs, d) => some (vs.map (· + off), d.pos)

/-- Exchanges entries `i` and `j` of a list (43_xof R266). -/
def swapAt (b : List Bool) (i j : Nat) : List Bool := (b.set i (b.getD j false)).set j (b.getD i false)

/-- The exchanges of the shuffle from position `pos` on: `b[pos]` with `b[pos + r]` for the draws r in turn. -/
def shuffle : List Bool → Nat → List Nat → List Bool
  | b, _, [] => b
  | b, pos, r :: rs => shuffle (swapAt b pos (pos + r)) (pos + 1) rs

/-- The bounds of the shuffle's draws, `T - pos` for pos = 0 .. T-2 (43_xof R266). -/
def shuffleBounds (T : Nat) : List Nat := (List.range (T - 1)).map fun pos => T - pos

/-- The reveal bitmap of a stream: W ones and T - W zeros, shuffled (43_xof R266). -/
def fixedWeight (S : Nat → Byte) (tries T W : Nat) : Option (List Bool) :=
  match drawMany S tries (shuffleBounds T) (Sampler.fresh 0) with
  | none => none
  | some (rs, _) => some (shuffle (List.replicate W true ++ List.replicate (T - W) false) 0 rs)

end Sys2Proof.Machine
end

