-- ==== Sys2Proof/Machine/Xof.lean ====
section
/-! DEFINITION. The XOF and sampler commands (43_xof R250 to R268) and the framing of every internal XOF input. -/

namespace Sys2Proof.Machine

/-- `H(s)`: the first DIGEST_BYTES bytes of the stream (00_scope R16). `X` is the stream by absorbed input, at the
level P_LAMBDA. -/
def hashOf (X : Bytes → Nat → Byte) (p : Params) (input : Bytes) : Bytes := streamBytes (X input) 0 p.digestBytes

/-- The framing of an internal session: `payload ∥ LE16(dsi)` (43_xof R250). -/
def framed (payload : Bytes) (dsi : Nat) : Bytes := payload ++ le16 dsi

/-- The bitmap a digest expands to: the stream of `d ∥ LE16(3T - 1)` (43_xof R266). -/
def expandBitmap (X : Bytes → Nat → Byte) (p : Params) (tries : Nat) (d : Bytes) : Option (List Bool) :=
  fixedWeight (X (framed d (3 * p.T - 1))) tries p.T p.W

/-- XINIT (43_xof R252). -/
def execXinit (s : State) : Host.Outcome State Fault Refusal :=
  runCommand .xinit s [s.paramCheck] (.effect s.xofOpen)

/-- XABS (43_xof R253): absorbs bytes of BUF. -/
def execXabs (b c : Reg) (s : State) : Host.Outcome State Fault Refusal :=
  runCommand (.xabs b c) s [s.paramCheck, s.phaseCheck .absorb, s.addrCheck [(s.val b, s.val c)]]
    (.effect (s.xofAbsorb (s.readBytes (s.val b) (s.val c))))

/-- XABSI (43_xof R254): absorbs `LE16(imm16)`. -/
def execXabsi (imm : Imm16) (s : State) : Host.Outcome State Fault Refusal :=
  runCommand (.xabsi imm) s [s.paramCheck, s.phaseCheck .absorb] (.effect (s.xofAbsorb (le16 imm.toNat)))

/-- XFIN (43_xof R255). -/
def execXfin (s : State) : Host.Outcome State Fault Refusal :=
  runCommand .xfin s [s.paramCheck, s.phaseCheck .absorb] (.effect s.xofFinish)

/-- XSQZ (43_xof R256): the next n bytes of the session's stream. -/
def execXsqz (a b : Reg) (s : State) : Host.Outcome State Fault Refusal :=
  let n := s.val b
  runCommand (.xsqz a b) s [s.paramCheck, s.phaseCheck .squeeze, s.addrCheck [(s.val a, n)]]
    (.effect ((s.writeBytes (s.val a) (streamBytes (s.xof s.xin) s.xpos n)).setXpos (s.xpos + n)))

/-- HASH (43_xof R257): no index is appended; the context is reset (R258). -/
def execHash (a b c : Reg) (s : State) : Host.Outcome State Fault Refusal :=
  runCommand (.hash a b c) s
    [s.paramCheck, s.addrCheck [(s.val a, s.params.digestBytes), (s.val b, s.val c)]]
    (.effect ((s.writeBytes (s.val a) (hashOf s.xof s.params (s.readBytes (s.val b) (s.val c)))).xofClear))

/-- A sampling command: `Sample` below `m`, each value plus `off`, from XPOS on; XPOS moves past the last chunk
fetched (43_xof R262 to R264). -/
def sampleCommand (i : Instr) (m off : Nat) (a d : Reg) (s : State) : Host.Outcome State Fault Refusal :=
  let n := s.val d
  runCommand i s [s.paramCheck, s.phaseCheck .squeeze, s.addrCheck [(s.val a, 2 * n)]]
    (match sample (s.xof s.xin) s.attempts m n off s.xpos with
    | none => .pending
    | some (vs, p) => .effect ((s.writeElems (s.val a) vs).setXpos p))

/-- SMPQ (43_xof R262): values in `[0, Q)`. -/
def execSmpq (a d : Reg) (s : State) : Host.Outcome State Fault Refusal :=
  sampleCommand (.smpq a d) s.params.Q 0 a d s

/-- SMPQS (43_xof R263): a draw in `[0, Q - 1)` plus 1. -/
def execSmpqs (a d : Reg) (s : State) : Host.Outcome State Fault Refusal :=
  sampleCommand (.smpqs a d) (s.params.Q - 1) 1 a d s

/-- SMPZ (43_xof R264): exponents in `[0, Z)`. -/
def execSmpz (a d : Reg) (s : State) : Host.Outcome State Fault Refusal :=
  sampleCommand (.smpz a d) s.params.Z 0 a d s

/-- FWEXP (43_xof R266): the reveal bitmap of a digest, one byte per round; the context is reset (R258). -/
def execFwexp (a b : Reg) (s : State) : Host.Outcome State Fault Refusal :=
  let p := s.params
  runCommand (.fwexp a b) s [s.paramCheck, s.addrCheck [(s.val a, p.T), (s.val b, p.digestBytes)]]
    (match expandBitmap s.xof p s.attempts (s.readBytes (s.val b) p.digestBytes) with
    | none => .pending
    | some bm => .effect ((s.writeBytes (s.val a) (bitmapBytes bm)).xofClear))

end Sys2Proof.Machine
end

