-- ==== Sys2Proof/Machine/SeedTree.lean ====
section
/-! DEFINITION. The seed tree unit: shape, derivation, disclosure set, and STBUILD, STDISC, STREB, with the flat mode
(45_seed_tree R320 to R328). Byte i of a bitmap is 1 when the seed of round i is disclosed (90 C1). -/

namespace Sys2Proof.Machine

/-- A tree computed from its T leaves up: the list of the values of nodes 0 to 2T - 2. Node n below T - 1 gets
`f n left right` of its children 2n + 1 and 2n + 2; leaf i is node T - 1 + i (45_seed_tree R320). The accumulator holds
nodes n + 1 and up, so node 2n + 1 stands at its place n. -/
def treeUp {α : Type} (dflt : α) (f : Nat → α → α → α) (leaves : List α) : List α :=
  (List.range (leaves.length - 1)).foldr (fun n acc => f n (acc.getD n dflt) (acc.getD (n + 1) dflt) :: acc) leaves

/-- A tree computed from its root down: the list of the values of nodes 0 to 2T - 2, the children of node n appended
when node n is expanded, n ascending (45_seed_tree R320, R321). -/
def treeDown {α : Type} (dflt : α) (f : Nat → α → α × α) (root : α) (T : Nat) : List α :=
  (List.range (T - 1)).foldl (fun acc n => acc ++ [(f n (acc.getD n dflt)).1, (f n (acc.getD n dflt)).2]) [root]

/-- `full(n)` for every node: the leaf's bit, and both children for an internal node (45_seed_tree R322). -/
def fullNodes (b : List Bool) : List Bool := treeUp false (fun _ l r => l && r) b

/-- `Dset(b)` in ascending node number: the full nodes whose parent is not full (45_seed_tree R322). -/
def dset (b : List Bool) : List Nat :=
  let full := fullNodes b
  (List.range full.length).filter fun n =>
    full.getD n false && (n == 0 || !full.getD ((n - 1) / 2) false)

/-- The rounds a bitmap marks with 1, ascending (45_seed_tree R326, 46_merkle R355). -/
def markedRounds (b : List Bool) : List Nat := (List.range b.length).filter fun i => b.getD i false

/-- The two children's seeds of node n: the halves of `2·SEED_BYTES` stream bytes of `seed ∥ salt ∥ LE16(n)`
(45_seed_tree R321). -/
def childSeeds (X : Bytes → Nat → Byte) (p : Params) (salt : Bytes) (n : Nat) (seed : Bytes) : Bytes × Bytes :=
  let S := X (framed (seed ++ salt) n)
  (streamBytes S 0 p.seedBytes, streamBytes S p.seedBytes p.seedBytes)

/-- `seed[0] .. seed[2T - 2]` (45_seed_tree R321). -/
def seedNodes (X : Bytes → Nat → Byte) (p : Params) (root salt : Bytes) : List Bytes :=
  treeDown [] (childSeeds X p salt) root p.T

/-- Round seed i in flat mode: the first SEED_BYTES stream bytes of `root ∥ salt ∥ LE16(i)` (45_seed_tree R326). -/
def flatSeed (X : Bytes → Nat → Byte) (p : Params) (root salt : Bytes) (i : Nat) : Bytes :=
  streamBytes (X (framed (root ++ salt) i)) 0 p.seedBytes

/-- The T round seeds (45_seed_tree R321, R323, R326). -/
def roundSeeds (X : Bytes → Nat → Byte) (p : Params) (root salt : Bytes) : List Bytes :=
  if p.flat then (List.range p.T).map (flatSeed X p root salt) else (seedNodes X p root salt).drop (p.T - 1)

/-- How many seeds (or proof digests) a bitmap needs: `|Dset(b)|`, in flat mode the number of ones
(45_seed_tree R324 to R326, 46_merkle R355, R356). -/
def coverCount (p : Params) (b : List Bool) : Nat := if p.flat then ones b else (dset b).length

/-- The disclosed seeds in order (45_seed_tree R324, R326). -/
def disclosedSeeds (X : Bytes → Nat → Byte) (p : Params) (root salt : Bytes) (b : List Bool) : List Bytes :=
  if p.flat then (markedRounds b).map (flatSeed X p root salt)
  else (dset b).map fun n => (seedNodes X p root salt).getD n []

/-- A byte string zero-filled to `n` bytes (45_seed_tree R324, 46_merkle R353). -/
def zeroFill (n : Nat) (bs : Bytes) : Bytes := bs ++ List.replicate (n - bs.length) 0

/-- The disclosure field: the seeds, then zero bytes up to ST_MAX seeds (45_seed_tree R324). -/
def disclosureField (X : Bytes → Nat → Byte) (p : Params) (root salt : Bytes) (b : List Bool) : Bytes :=
  zeroFill (p.stMax * p.seedBytes) (disclosedSeeds X p root salt b).flatten

/-- The k-th item of `size` bytes of an array (20_memory R100). -/
def itemAt (size : Nat) (bs : Bytes) (k : Nat) : Bytes := (bs.drop (k * size)).take size

/-- The item supplied for a node or round: that of its place in the list of covered ones. -/
def suppliedFor (size : Nat) (bs : Bytes) (covered : List Nat) (n : Nat) : Option Bytes :=
  (covered.idxOf? n).map (itemAt size bs)

/-- The seeds STREB sets, node by node: a supplied one at a node of Dset, the derived ones below (45_seed_tree R325). -/
def rebuiltNodes (X : Bytes → Nat → Byte) (p : Params) (supplied salt : Bytes) (b : List Bool) :
    List (Option Bytes) :=
  let cover := dset b
  let given := suppliedFor p.seedBytes supplied cover
  treeDown none
    (fun n seed =>
      match seed with
      | some sd => (some (childSeeds X p salt n sd).1, some (childSeeds X p salt n sd).2)
      | none => (given (2 * n + 1), given (2 * n + 2)))
    (given 0) p.T

/-- The round seeds STREB recovers: a seed for every disclosed round, zero bytes elsewhere (45_seed_tree R325, R326). -/
def rebuiltSeeds (X : Bytes → Nat → Byte) (p : Params) (supplied salt : Bytes) (b : List Bool) : List Bytes :=
  let zero := List.replicate p.seedBytes 0
  (List.range p.T).map fun i =>
    if b.getD i false then
      (if p.flat then suppliedFor p.seedBytes supplied (markedRounds b) i
        else (rebuiltNodes X p supplied salt b).getD (p.T - 1 + i) none).getD zero
    else zero

/-- STBUILD (45_seed_tree R323, R326). -/
def execStbuild (a b c : Reg) (s : State) : Host.Outcome State Fault Refusal :=
  let p := s.params
  runCommand (.stbuild a b c) s
    [s.paramCheck,
      s.addrCheck [(s.val a, p.T * p.seedBytes), (s.val b, p.seedBytes), (s.val c, p.saltBytes)]]
    (.effect ((s.writeBytes (s.val a)
      (roundSeeds s.xof p (s.readBytes (s.val b) p.seedBytes) (s.readBytes (s.val c) p.saltBytes)).flatten).xofClear))

/-- STDISC (45_seed_tree R324, R326, R327). -/
def execStdisc (a b c d e : Reg) (s : State) : Host.Outcome State Fault Refusal :=
  let p := s.params
  let bm := s.readBytes (s.val d) p.T
  let count := coverCount p (bitmapOf bm)
  runCommand (.stdisc a b c d e) s
    [s.paramCheck,
      s.addrCheck [(s.val a, p.stMax * p.seedBytes), (s.val b, p.seedBytes), (s.val c, p.saltBytes), (s.val d, p.T)],
      (.range, bitmapOk bm), (.bound, decide (count ≤ p.stMax))]
    (.effect (((s.writeBytes (s.val a)
      (disclosureField s.xof p (s.readBytes (s.val b) p.seedBytes) (s.readBytes (s.val c) p.saltBytes)
        (bitmapOf bm))).setX e count).xofClear))

/-- STREB (45_seed_tree R325 to R327): a wrong count is not a fault; it clears STR and leaves the destination. -/
def execStreb (a b c d e : Reg) (s : State) : Host.Outcome State Fault Refusal :=
  let p := s.params
  let bm := s.readBytes (s.val d) p.T
  let count := coverCount p (bitmapOf bm)
  let ok := decide (s.val e = count) && decide (count ≤ p.stMax)
  runCommand (.streb a b c d e) s
    [s.paramCheck,
      s.addrCheck [(s.val a, p.T * p.seedBytes), (s.val b, p.stMax * p.seedBytes), (s.val c, p.saltBytes),
        (s.val d, p.T)],
      (.range, bitmapOk bm)]
    (.effect (((if ok then s.writeBytes (s.val a)
      (rebuiltSeeds s.xof p (s.readBytes (s.val b) (p.stMax * p.seedBytes)) (s.readBytes (s.val c) p.saltBytes)
        (bitmapOf bm)).flatten else s).setStr ok).xofClear))

end Sys2Proof.Machine
end

