-- ==== Sys2Proof/Machine/Merkle.lean ====
section
/-! DEFINITION. The Merkle tree unit: node hash, proof set, and MTROOT, MTPROOF, MTRECOMP, with the flat mode
(46_merkle R350 to R358). Byte i of a bitmap is 0 when leaf i is known to the recomputing party. -/

namespace Sys2Proof.Machine

/-- `node[0] .. node[2T - 2]`: leaf i at node T - 1 + i, an internal node the hash of its children, left first
(46_merkle R350). -/
def merkleNodes (X : Bytes → Nat → Byte) (p : Params) (leaves : List Bytes) : List Bytes :=
  treeUp [] (fun _ l r => hashOf X p (l ++ r)) leaves

/-- `known(n)` for every node: the leaf's bit is 0, or a child is known (46_merkle R351). -/
def knownNodes (b : List Bool) : List Bool := treeUp false (fun _ l r => l || r) (b.map (!·))

/-- `Pset(b)` in ascending node number: the unknown nodes whose parent is known (46_merkle R351). -/
def pset (b : List Bool) : List Nat :=
  let known := knownNodes b
  (List.range known.length).filter fun n =>
    !known.getD n false && (n == 0 || known.getD ((n - 1) / 2) false)

/-- Block k of the leaves in flat mode: leaves `floor(k·T/4)` to `floor((k+1)·T/4) - 1` (46_merkle R355). -/
def flatBlock (T : Nat) (leaves : List Bytes) (k : Nat) : Bytes :=
  ((leaves.drop (k * T / 4)).take ((k + 1) * T / 4 - k * T / 4)).flatten

/-- The root in flat mode: the hash of the four block hashes (46_merkle R355). -/
def flatRoot (X : Bytes → Nat → Byte) (p : Params) (leaves : List Bytes) : Bytes :=
  hashOf X p (((List.range 4).map fun k => hashOf X p (flatBlock p.T leaves k)).flatten)

/-- The root of the T leaf digests (46_merkle R350, R352, R355). -/
def merkleRoot (X : Bytes → Nat → Byte) (p : Params) (leaves : List Bytes) : Bytes :=
  if p.flat then flatRoot X p leaves else (merkleNodes X p leaves).getD 0 []

/-- The number of proof digests a bitmap needs: `|Pset(b)|`, in flat mode the number of ones (46_merkle R353, R355). -/
def proofCount (p : Params) (b : List Bool) : Nat := if p.flat then ones b else (pset b).length

/-- The proof digests in order (46_merkle R353, R355). -/
def proofDigests (X : Bytes → Nat → Byte) (p : Params) (leaves : List Bytes) (b : List Bool) : List Bytes :=
  if p.flat then (markedRounds b).map fun i => leaves.getD i []
  else (pset b).map fun n => (merkleNodes X p leaves).getD n []

/-- The proof field: the digests, then zero bytes up to MT_MAX digests (46_merkle R353). -/
def proofField (X : Bytes → Nat → Byte) (p : Params) (leaves : List Bytes) (b : List Bool) : Bytes :=
  zeroFill (p.mtMax * p.digestBytes) (proofDigests X p leaves b).flatten

/-- The leaf array in flat mode: slot i for a known leaf, the next proof digest for an unknown one (46_merkle R355). -/
def flatLeaves (p : Params) (slots : List Bytes) (proof : Bytes) (b : List Bool) : List Bytes :=
  (List.range p.T).map fun i =>
    if b.getD i false then (suppliedFor p.digestBytes proof (markedRounds b) i).getD [] else slots.getD i []

/-- The nodes MTRECOMP computes: a proof digest at a node of Pset, a known leaf's slot, the hash of the children at a
known internal node (46_merkle R354). Nodes below one of Pset are left empty; nothing reads them. -/
def recomputedNodes (X : Bytes → Nat → Byte) (p : Params) (slots : List Bytes) (proof : Bytes) (b : List Bool) :
    List Bytes :=
  let cover := pset b
  let given := suppliedFor p.digestBytes proof cover
  let known := knownNodes b
  treeUp [] (fun n l r => (given n).getD (if known.getD n false then hashOf X p (l ++ r) else []))
    ((List.range p.T).map fun i =>
      if b.getD i false then (given (p.T - 1 + i)).getD [] else slots.getD i [])

/-- The root MTRECOMP gives (46_merkle R354, R355). -/
def recomputedRoot (X : Bytes → Nat → Byte) (p : Params) (slots : List Bytes) (proof : Bytes) (b : List Bool) :
    Bytes :=
  if p.flat then flatRoot X p (flatLeaves p slots proof b) else (recomputedNodes X p slots proof b).getD 0 []

/-- A digest array of `n` digests, cut into its digests (20_memory R100). -/
def digestArray (p : Params) (n : Nat) (bs : Bytes) : List Bytes := (List.range n).map (itemAt p.digestBytes bs)

/-- MTROOT (46_merkle R352, R355). -/
def execMtroot (a b : Reg) (s : State) : Host.Outcome State Fault Refusal :=
  let p := s.params
  runCommand (.mtroot a b) s [s.paramCheck, s.addrCheck [(s.val a, p.digestBytes), (s.val b, p.T * p.digestBytes)]]
    (.effect ((s.writeBytes (s.val a)
      (merkleRoot s.xof p (digestArray p p.T (s.readBytes (s.val b) (p.T * p.digestBytes))))).xofClear))

/-- MTPROOF (46_merkle R353, R355, R357). -/
def execMtproof (a b d e : Reg) (s : State) : Host.Outcome State Fault Refusal :=
  let p := s.params
  let bm := s.readBytes (s.val d) p.T
  let count := proofCount p (bitmapOf bm)
  runCommand (.mtproof a b d e) s
    [s.paramCheck,
      s.addrCheck [(s.val a, p.mtMax * p.digestBytes), (s.val b, p.T * p.digestBytes), (s.val d, p.T)],
      (.range, bitmapOk bm), (.bound, decide (count ≤ p.mtMax))]
    (.effect (((s.writeBytes (s.val a)
      (proofField s.xof p (digestArray p p.T (s.readBytes (s.val b) (p.T * p.digestBytes)))
        (bitmapOf bm))).setX e count).xofClear))

/-- MTRECOMP (46_merkle R354, R355, R357): a wrong count is not a fault; it clears STR and leaves the destination. -/
def execMtrecomp (a b c d e : Reg) (s : State) : Host.Outcome State Fault Refusal :=
  let p := s.params
  let bm := s.readBytes (s.val d) p.T
  let count := proofCount p (bitmapOf bm)
  let ok := decide (s.val e = count) && decide (count ≤ p.mtMax)
  runCommand (.mtrecomp a b c d e) s
    [s.paramCheck,
      s.addrCheck [(s.val a, p.digestBytes), (s.val b, p.T * p.digestBytes), (s.val c, p.mtMax * p.digestBytes),
        (s.val d, p.T)],
      (.range, bitmapOk bm)]
    (.effect (((if ok then s.writeBytes (s.val a)
      (recomputedRoot s.xof p (digestArray p p.T (s.readBytes (s.val b) (p.T * p.digestBytes)))
        (s.readBytes (s.val c) (p.mtMax * p.digestBytes)) (bitmapOf bm)) else s).setStr ok).xofClear))

end Sys2Proof.Machine
end

