-- ==== Sys2Proof/Machine/Arith.lean ====
section
/-! DEFINITION. The arithmetic modulo Q and modulo Z, on canonical operands and exact natural numbers
(00_scope R17, 41_scalar R181 to R197, 42_vector R211 to R225). -/

namespace Sys2Proof.Machine

/-- `(a + b) mod m` (00_scope R17: addQ, addZ). -/
def addMod (m a b : Nat) : Nat := (a + b) % m

/-- `(a - b) mod m` for `a, b < m`: `a - b` when `a ≥ b`, else `a - b + m` (41_scalar R181: subQ, subZ). -/
def subMod (m a b : Nat) : Nat := if b ≤ a then a - b else a + m - b

/-- `(a · b) mod m`, the product exact (00_scope R17: mulQ, mulZ). -/
def mulMod (m a b : Nat) : Nat := a * b % m

/-- The canonicalisation step: one conditional subtraction of the modulus (41_scalar R186, R196). -/
def normMod (m v : Nat) : Nat := if m ≤ v then v - m else v

/-- The r in `[1, m)` with `(a · r) mod m = 1`; the first one, and the only one (41_scalar R188, R197). -/
def invMod (m a : Nat) : Nat := ((List.range m).find? fun r => decide (1 ≤ r ∧ a * r % m = 1)).getD 0

/-- `emb(e) = g^e mod Q` (00_scope R17, 41_scalar R189). -/
def Params.emb (p : Params) (e : Nat) : Nat := p.G ^ e % p.Q

/-- `inG(v)`: some e in `[0, Z)` has `emb(e) = v`; every candidate is compared (41_scalar R190). -/
def Params.inG (p : Params) (v : Nat) : Bool := (List.range p.Z).any fun e => p.emb e == v

/-- `dlog(v)`: that e; 0 for a value outside the subgroup (41_scalar R191). -/
def Params.dlog (p : Params) (v : Nat) : Nat := ((List.range p.Z).find? fun e => p.emb e == v).getD 0

/-- `emb` on a vector (00_scope R17). -/
def Params.embVec (p : Params) (es : List Nat) : List Nat := es.map p.emb

/-- Pointwise difference modulo m (42_vector R212, R216). -/
def subVec (m : Nat) (a b : List Nat) : List Nat := List.zipWith (subMod m) a b

/-- Pointwise product modulo m (42_vector R213). -/
def mulVec (m : Nat) (a b : List Nat) : List Nat := List.zipWith (mulMod m) a b

/-- The scaled combination `(a + β·b) mod m`, product and sum exact before the one reduction (42_vector R215). -/
def scaVec (m beta : Nat) (a b : List Nat) : List Nat := List.zipWith (fun u v => (u + beta * v) % m) a b

/-- `syn(v)`: for `0 ≤ j < N - K`, `(v[K+j] + Σ_(i<K) v[i]·V[i][j]) mod Q`, V row-major with N - K columns
(42_vector R223). -/
def Params.syn (p : Params) (V v : List Nat) : List Nat :=
  (List.range (p.N - p.K)).map fun j =>
    (v.getD (p.K + j) 0 + ((List.range p.K).map fun i => v.getD i 0 * V.getD (i * (p.N - p.K) + j) 0).sum) % p.Q

/-- `EXPZ(η)`: η times W_mat modulo Z, then η itself; W_mat row-major with N - M columns (42_vector R225). -/
def Params.expz (p : Params) (Wm eta : List Nat) : List Nat :=
  ((List.range (p.N - p.M)).map fun j =>
    ((List.range p.M).map fun i => eta.getD i 0 * Wm.getD (i * (p.N - p.M) + j) 0).sum % p.Z) ++
  (List.range p.M).map fun i => eta.getD i 0

end Sys2Proof.Machine
end

