-- ==== Sys2Proof/Machine/Protocol.lean ====
section
/-! DEFINITION. The signature protocol: the shared derivations, KEYGEN, SIGN and VERIFY (47_protocol R380 to R401). The
rounds run in index order (R400). `X` is the XOF stream by absorbed input at the level P_LAMBDA, `tries` the windows a
draw may examine; `none` says that a draw has not ended by then (log 5). -/

namespace Sys2Proof.Machine

/-- Every result of a list of computations, if each has one. -/
def allSome {α : Type} : List (Option α) → Option (List α)
  | [] => some []
  | none :: _ => none
  | some v :: rest =>
    match allSome rest with
    | none => none
    | some vs => some (v :: vs)

/-! ### Shared derivations -/

/-- ExpandMaster: the public seed, then the private-expansion seed, raw stream bytes (47_protocol R383). -/
def expandMaster (X : Bytes → Nat → Byte) (p : Params) (ms : Bytes) : Bytes × Bytes :=
  let S := X (framed ms (3 * p.T + 1))
  (streamBytes S 0 p.seedBytes, streamBytes S p.seedBytes p.seedBytes)

/-- ExpandPublic: V_tr and, for RSDPG only, W_mat from the same stream (47_protocol R384). -/
def expandPublic (X : Bytes → Nat → Byte) (p : Params) (tries : Nat) (ps : Bytes) : Option (List Nat × List Nat) :=
  let S := X (framed ps (3 * p.T + 2))
  match sample S tries p.Q (p.K * (p.N - p.K)) 0 0 with
  | none => none
  | some (V, pos) =>
    if p.variant then
      match sample S tries p.Z (p.M * (p.N - p.M)) 0 pos with
      | none => none
      | some (Wm, _) => some (V, Wm)
    else some (V, [])

/-- The N exponents of a short restricted vector: itself (RSDP) or its expansion through W_mat (RSDPG)
(47_protocol R385, R386, R387). -/
def Params.expand (p : Params) (Wm short : List Nat) : List Nat := if p.variant then p.expz Wm short else short

/-- ExpandSecret: the short secret, L exponents; the secret itself is `expand` of it (47_protocol R385). -/
def expandSecret (X : Bytes → Nat → Byte) (p : Params) (tries : Nat) (es : Bytes) : Option (List Nat) :=
  (sample (X (framed es (3 * p.T + 3))) tries p.Z p.L 0 0).map (·.1)

/-- RoundExpand: the short masking vector and the blinding vector of round i (47_protocol R386). -/
def roundExpand (X : Bytes → Nat → Byte) (p : Params) (tries : Nat) (rs salt : Bytes) (i : Nat) :
    Option (List Nat × List Nat) :=
  let S := X (framed (rs ++ salt) (2 * p.T - 1 + i))
  match sample S tries p.Z p.L 0 0 with
  | none => none
  | some (mask, pos) =>
    match sample S tries p.Q p.N 0 pos with
    | none => none
    | some (u, _) => some (mask, u)

/-- The index of round i in the commitment hashes, `LE16(0x8000 + i)` (47_protocol notation, 43_xof R251). -/
def commitIndex (i : Nat) : Nat := 0x8000 + i

/-- `cmt_0_i = H(packQ(s~) ∥ packQ(σ') ∥ salt ∥ idx(i))` (47_protocol R387). -/
def commit0 (X : Bytes → Nat → Byte) (p : Params) (syndrome sigma : List Nat) (salt : Bytes) (i : Nat) : Bytes :=
  hashOf X p (framed (packQ p syndrome ++ packQ p sigma ++ salt) (commitIndex i))

/-- `cmt_1_i = H(rs_i ∥ salt ∥ idx(i))` (47_protocol R387). -/
def commit1 (X : Bytes → Nat → Byte) (p : Params) (rs salt : Bytes) (i : Nat) : Bytes :=
  hashOf X p (framed (rs ++ salt) (commitIndex i))

/-- What the signer keeps of a round (00_scope R20: round state). -/
structure RoundOut where
  /-- The masking vector in its short form. -/
  mask : List Nat
  /-- The blinding vector. -/
  blind : List Nat
  /-- The disclosed masked-secret vector σ'. -/
  sigma : List Nat
  cmt0 : Bytes
  cmt1 : Bytes
deriving DecidableEq, Repr

/-- RoundCommit: `δ = (short - m') mod Z`, `σ' = emb(δ)`, `σ = emb(expand δ)`, `û = σ ⋆ u`, `s~ = syn(û)` and the two
commitments (47_protocol R387). -/
def roundCommit (X : Bytes → Nat → Byte) (p : Params) (tries : Nat) (V Wm short : List Nat) (rs salt : Bytes)
    (i : Nat) : Option RoundOut :=
  match roundExpand X p tries rs salt i with
  | none => none
  | some (mask, u) =>
    let delta := subVec p.Z short mask
    let sigma := p.embVec delta
    let masked := mulVec p.Q (p.embVec (p.expand Wm delta)) u
    some ⟨mask, u, sigma, commit0 X p (p.syn V masked) sigma salt i, commit1 X p rs salt i⟩

/-- The response `y_i = (u_i + β_i · emb(m_i)) mod Q` (47_protocol R390, 90 C2). -/
def response (p : Params) (Wm mask u : List Nat) (beta : Nat) : List Nat :=
  scaVec p.Q beta u (p.embVec (p.expand Wm mask))

/-- digest_01 from digest_0 and all cmt_1 (47_protocol R388). -/
def digest01 (X : Bytes → Nat → Byte) (p : Params) (digest0 : Bytes) (cmt1s : List Bytes) : Bytes :=
  hashOf X p (digest0 ++ hashOf X p cmt1s.flatten)

/-- The first-challenge digest `dch1 = H(msg ∥ digest_01 ∥ salt)` (47_protocol R389). -/
def challengeDigest (X : Bytes → Nat → Byte) (p : Params) (msg d01 salt : Bytes) : Bytes :=
  hashOf X p (msg ++ d01 ++ salt)

/-- The T challenges β in `[1, Q - 1]` (47_protocol R389). -/
def challenges (X : Bytes → Nat → Byte) (p : Params) (tries : Nat) (dch1 : Bytes) : Option (List Nat) :=
  (sample (X (framed dch1 (3 * p.T))) tries (p.Q - 1) p.T 1 0).map (·.1)

/-- `digest_b = H(packQ(y_0) ∥ .. ∥ packQ(y_(T-1)) ∥ dch1)` (47_protocol R391). -/
def digestB (X : Bytes → Nat → Byte) (p : Params) (ys : List (List Nat)) (dch1 : Bytes) : Bytes :=
  hashOf X p ((ys.map (packQ p)).flatten ++ dch1)

/-! ### KEYGEN (47_protocol R381, R392) -/

/-- The public key of a master seed: `ps ∥ packQ(s)` with `s = syn(emb(e))` (47_protocol R381, R392). -/
def publicKey (X : Bytes → Nat → Byte) (p : Params) (tries : Nat) (ms : Bytes) : Option Bytes :=
  let seeds := expandMaster X p ms
  match expandPublic X p tries seeds.1 with
  | none => none
  | some (V, Wm) =>
    match expandSecret X p tries seeds.2 with
    | none => none
    | some short => some (seeds.1 ++ packQ p (p.syn V (p.embVec (p.expand Wm short))))

/-- KEYGEN (47_protocol R392): one entropy request, the public key, then the private key. -/
def execKeygen (a b : Reg) (s : State) : Host.Outcome State Fault Refusal :=
  let p := s.params
  runCommand (.keygen a b) s [s.paramCheck, s.addrCheck [(s.val a, p.pkBytes), (s.val b, p.skBytes)]]
    (match s.entropyAnswer p.seedBytes with
    | none => .late .entropy s.entropyNext
    | some ms =>
      match publicKey s.xof p s.attempts ms with
      | none => .pending
      | some pk => .effect (((s.entropyNext.writeBytes (s.val a) pk).writeBytes (s.val b) ms).xofClear))

/-! ### SIGN (47_protocol R382, R393) -/

/-- The response record of an opened round: `packQ(y_i) ∥ packQ(σ'_i) ∥ cmt_1_i` (47_protocol R382). -/
def record (p : Params) (y : List Nat) (r : RoundOut) : Bytes := packQ p y ++ packQ p r.sigma ++ r.cmt1

/-- The rounds a bitmap opens, ascending (00_scope R21). -/
def openedRounds (b : List Bool) : List Nat := (List.range b.length).filter fun i => !b.getD i false

/-- A signature from the signer's values (47_protocol R382, R393 step 7). -/
def assemble (X : Bytes → Nat → Byte) (p : Params) (root salt d01 db : Bytes) (b : List Bool)
    (rounds : List RoundOut) (ys : List (List Nat)) : Bytes :=
  salt ++ d01 ++ db ++ disclosureField X p root salt b ++ proofField X p (rounds.map (·.cmt0)) b ++
    ((openedRounds b).map fun i => record p (ys.getD i []) (rounds.getD i ⟨[], [], [], [], []⟩)).flatten

/-- The responses of every round (47_protocol R390, R393 step 5). -/
def responses (p : Params) (Wm : List Nat) (rounds : List RoundOut) (betas : List Nat) : List (List Nat) :=
  (rounds.zip betas).map fun rb => response p Wm rb.1.mask rb.1.blind rb.2

/-- SIGN's steps (1) to (7) after the entropy draws: the bitmap and the signature (47_protocol R393). -/
def signature (X : Bytes → Nat → Byte) (p : Params) (tries : Nat) (ms root salt msg : Bytes) :
    Option (List Bool × Bytes) :=
  let seeds := expandMaster X p ms
  match expandPublic X p tries seeds.1, expandSecret X p tries seeds.2 with
  | some (V, Wm), some short =>
    let rss := roundSeeds X p root salt
    match allSome ((List.range p.T).map fun i => roundCommit X p tries V Wm short (rss.getD i []) salt i) with
    | none => none
    | some rounds =>
      let d01 := digest01 X p (merkleRoot X p (rounds.map (·.cmt0))) (rounds.map (·.cmt1))
      let dch1 := challengeDigest X p msg d01 salt
      match challenges X p tries dch1 with
      | none => none
      | some betas =>
        let ys := responses p Wm rounds betas
        let db := digestB X p ys dch1
        match expandBitmap X p tries db with
        | none => none
        | some b => some (b, assemble X p root salt d01 db b rounds ys)
  | _, _ => none

/-- A bitmap's count is within both bounds (47_protocol R393 step 7, R394 step 3). -/
def withinBounds (p : Params) (b : List Bool) : Bool :=
  decide (coverCount p b ≤ p.stMax) && decide (coverCount p b ≤ p.mtMax)

/-- SIGN (47_protocol R393): the root seed, then the salt, are drawn; the first `Unavailable` ends the command
(log 10). -/
def execSign (a b c d : Reg) (s : State) : Host.Outcome State Fault Refusal :=
  let p := s.params
  runCommand (.sign a b c d) s
    [s.paramCheck, s.addrCheck [(s.val a, p.sigBytes), (s.val b, p.skBytes), (s.val c, s.val d)]]
    (match s.entropyAnswer p.seedBytes with
    | none => .late .entropy s.entropyNext
    | some root =>
      match s.entropyNext.entropyAnswer p.saltBytes with
      | none => .late .entropy s.entropyNext.entropyNext
      | some salt =>
        match signature s.xof p s.attempts (s.readBytes (s.val b) p.seedBytes) root salt
            (s.readBytes (s.val c) (s.val d)) with
        | none => .pending
        | some (bm, sig) =>
          if withinBounds p bm then .effect ((s.entropyNext.entropyNext.writeBytes (s.val a) sig).xofClear)
          else .late .bound s.entropyNext.entropyNext)

/-! ### VERIFY (47_protocol R394 to R398) -/

/-- `n` bytes of a string from offset `off` on. -/
def slice (bs : Bytes) (off n : Nat) : Bytes := (bs.drop off).take n

/-- The salt of a signature (47_protocol R382). -/
def sigSalt (p : Params) (sig : Bytes) : Bytes := slice sig 0 p.saltBytes
/-- digest_01 of a signature (47_protocol R382). -/
def sigDigest01 (p : Params) (sig : Bytes) : Bytes := slice sig p.saltBytes p.digestBytes
/-- digest_b of a signature (47_protocol R382). -/
def sigDigestB (p : Params) (sig : Bytes) : Bytes := slice sig (p.saltBytes + p.digestBytes) p.digestBytes
/-- The offset of the seed-tree disclosure ST (47_protocol R382). -/
def stOffset (p : Params) : Nat := p.saltBytes + 2 * p.digestBytes
/-- The seed-tree disclosure ST of a signature (47_protocol R382). -/
def sigSt (p : Params) (sig : Bytes) : Bytes := slice sig (stOffset p) (p.stMax * p.seedBytes)
/-- The offset of the Merkle proof MT (47_protocol R382). -/
def mtOffset (p : Params) : Nat := stOffset p + p.stMax * p.seedBytes
/-- The Merkle batch proof MT of a signature (47_protocol R382). -/
def sigMt (p : Params) (sig : Bytes) : Bytes := slice sig (mtOffset p) (p.mtMax * p.digestBytes)
/-- The k-th response record of a signature (47_protocol R382). -/
def sigRecord (p : Params) (sig : Bytes) (k : Nat) : Bytes :=
  slice sig (mtOffset p + p.mtMax * p.digestBytes + k * p.recBytes) p.recBytes

/-- The packed response of a record. -/
def recY (p : Params) (r : Bytes) : Bytes := r.take (p.pkq p.N)
/-- The packed masked secret of a record. -/
def recSigma (p : Params) (r : Bytes) : Bytes := slice r (p.pkq p.N) (p.pkq p.L)
/-- cmt_1 of a record. -/
def recCmt1 (p : Params) (r : Bytes) : Bytes := slice r (p.pkq p.N + p.pkq p.L) p.digestBytes

/-- A byte string holds a byte other than 0 (47_protocol R394 step 3). -/
def nonZero (bs : Bytes) : Bool := bs.any fun c => c != 0

/-- The failures of steps (1), (3) and (4): the packed syndrome and every record examined, the tree fields' padding
(47_protocol R394; C5: accumulated, none skipped). -/
def examine (p : Params) (pk sig : Bytes) (b : List Bool) : Verdict :=
  let records := (List.range (openedRounds b).length).map (sigRecord p sig)
  let count := coverCount p b
  { malformed := !packedCanonical p.Q (p.N - p.K) (pk.drop p.seedBytes) ||
      records.any fun r => !packedCanonical p.Q p.N (recY p r) || !packedCanonical p.Q p.L (recSigma p r)
    membership := records.any fun r => !(unpackVec (bits p.Q) p.L (recSigma p r)).all p.inG
    commitment := false
    structural := !withinBounds p b || nonZero ((sigSt p sig).drop (count * p.seedBytes)) ||
      nonZero ((sigMt p sig).drop (count * p.digestBytes)) }

/-- What VERIFY derives for one round: y, cmt_1, and cmt_0 for an opened one. -/
structure RoundCheck where
  y : List Nat
  cmt1 : Bytes
  cmt0 : Bytes
deriving DecidableEq, Repr

/-- A hidden round: everything is replayed from its seed; cmt_0 is not computed (47_protocol R395). -/
def hiddenRound (X : Bytes → Nat → Byte) (p : Params) (tries : Nat) (Wm : List Nat) (rs salt : Bytes)
    (beta i : Nat) : Option RoundCheck :=
  match roundExpand X p tries rs salt i with
  | none => none
  | some (mask, u) => some ⟨response p Wm mask u beta, commit1 X p rs salt i, []⟩

/-- An opened round, from its record: `σ = σ'` (RSDP) or `emb(EXPZ(dlog σ'))` (RSDPG), `y' = σ ⋆ y`,
`s' = (syn(y') - β·s) mod Q`, and cmt_0 of it (47_protocol R396). -/
def openedRound (X : Bytes → Nat → Byte) (p : Params) (V Wm s : List Nat) (r salt : Bytes) (beta i : Nat) :
    RoundCheck :=
  let y := unpackVec (bits p.Q) p.N (recY p r)
  let sigma := unpackVec (bits p.Q) p.L (recSigma p r)
  let full := if p.variant then p.embVec (p.expz Wm (sigma.map p.dlog)) else sigma
  let s' := subVec p.Q (p.syn V (mulVec p.Q full y)) (s.map (mulMod p.Q beta))
  ⟨y, recCmt1 p r, commit0 X p s' sigma salt i⟩

/-- Steps (6) and (7): every round, the Merkle root, and the two digests compared whole (47_protocol R395 to R397). -/
def digestsAgree (X : Bytes → Nat → Byte) (p : Params) (tries : Nat) (V Wm : List Nat) (pk sig dch1 : Bytes)
    (betas : List Nat) (b : List Bool) : Option Bool :=
  let salt := sigSalt p sig
  let s := unpackVec (bits p.Q) (p.N - p.K) (pk.drop p.seedBytes)
  let seeds := rebuiltSeeds X p (sigSt p sig) salt b
  match allSome ((List.range p.T).map fun i =>
      if b.getD i false then hiddenRound X p tries Wm (seeds.getD i []) salt (betas.getD i 0) i
      else some (openedRound X p V Wm s (sigRecord p sig ((openedRounds b).idxOf i)) salt (betas.getD i 0) i)) with
  | none => none
  | some rounds =>
    let d01 := digest01 X p (recomputedRoot X p (rounds.map (·.cmt0)) (sigMt p sig) b) (rounds.map (·.cmt1))
    some (d01 == sigDigest01 p sig && digestB X p (rounds.map (·.y)) dch1 == sigDigestB p sig)

/-- VERIFY on a signature of the right length: steps (1) to (7) (47_protocol R394). -/
def judge (X : Bytes → Nat → Byte) (p : Params) (tries : Nat) (pk msg sig : Bytes) : Option Verdict :=
  let dch1 := challengeDigest X p msg (sigDigest01 p sig) (sigSalt p sig)
  match expandPublic X p tries (pk.take p.seedBytes), challenges X p tries dch1,
      expandBitmap X p tries (sigDigestB p sig) with
  | some (V, Wm), some betas, some b =>
    let f := examine p pk sig b
    if f.accepts then
      match digestsAgree X p tries V Wm pk sig dch1 betas b with
      | none => none
      | some agree => some { f with commitment := !agree }
    else some { f with commitment := true }
  | _, _, _ => none

/-- Step (8): `VFAIL <- F; FLAGS.ACC <- (F = 0)`; the context is reset (47_protocol R394). -/
def State.conclude (s : State) (v : Verdict) : State :=
  State.xofClear { s.setAcc v.accepts with vfail := v.toWord }

/-- VERIFY (47_protocol R394): a signature of the wrong length is Malformed without being read, and its region is then
no operand. -/
def execVerify (a b c d e : Reg) (s : State) : Host.Outcome State Fault Refusal :=
  let p := s.params
  let sized := decide (s.val a = p.sigBytes)
  runCommand (.verify a b c d e) s
    [s.paramCheck,
      s.addrCheck ([(s.val b, p.pkBytes), (s.val c, s.val d)] ++ if sized then [(s.val e, p.sigBytes)] else [])]
    (if sized then
      match judge s.xof p s.attempts (s.readBytes (s.val b) p.pkBytes) (s.readBytes (s.val c) (s.val d))
          (s.readBytes (s.val e) p.sigBytes) with
      | none => .pending
      | some v => .effect (s.conclude v)
    else .effect (s.conclude ⟨true, false, true, false⟩))

end Sys2Proof.Machine
end

