-- ==== Sys2Proof/Machine/Scalar.lean ====
section
/-! DEFINITION. The thirteen scalar commands of the field arithmetic unit (41_scalar R180 to R197). The sources are full
32-bit register values; the tests stand in the order of R180: parameters, range, domain. -/

namespace Sys2Proof.Machine

/-- A two-operand scalar command modulo `m`: both operands below `m`, then `x[A] <- f a b` (41_scalar R180). -/
def scalarBinary (i : Instr) (m : Nat) (f : Nat → Nat → Nat) (a b c : Reg) (s : State) :
    Host.Outcome State Fault Refusal :=
  runCommand i s [s.paramCheck, (.range, decide (s.val b < m ∧ s.val c < m))]
    (.effect (s.setX a (f (s.val b) (s.val c))))

/-- A one-operand scalar command on `[0, bound)`: `x[A] <- f v` (41_scalar R180). -/
def scalarUnary (i : Instr) (bound : Nat) (f : Nat → Nat) (a b : Reg) (s : State) :
    Host.Outcome State Fault Refusal :=
  runCommand i s [s.paramCheck, (.range, decide (s.val b < bound))] (.effect (s.setX a (f (s.val b))))

/-- A modular inverse: the operand below `m` (ERR_RANGE), then a unit (ERR_DOMAIN), then the inverse (41_scalar R188). -/
def scalarInverse (i : Instr) (m : Nat) (a b : Reg) (s : State) : Host.Outcome State Fault Refusal :=
  runCommand i s [s.paramCheck, (.range, decide (s.val b < m)), (.domain, decide (Nat.gcd (s.val b) m = 1))]
    (.effect (s.setX a (invMod m (s.val b))))

/-- FQADD (41_scalar R183). -/
def execFqadd (a b c : Reg) (s : State) : Host.Outcome State Fault Refusal :=
  scalarBinary (.fqadd a b c) s.params.Q (addMod s.params.Q) a b c s

/-- FQSUB (41_scalar R184). -/
def execFqsub (a b c : Reg) (s : State) : Host.Outcome State Fault Refusal :=
  scalarBinary (.fqsub a b c) s.params.Q (subMod s.params.Q) a b c s

/-- FQMUL (41_scalar R185). -/
def execFqmul (a b c : Reg) (s : State) : Host.Outcome State Fault Refusal :=
  scalarBinary (.fqmul a b c) s.params.Q (mulMod s.params.Q) a b c s

/-- FQNORM (41_scalar R186): defined on `[0, 2Q)`. -/
def execFqnorm (a b : Reg) (s : State) : Host.Outcome State Fault Refusal :=
  scalarUnary (.fqnorm a b) (2 * s.params.Q) (normMod s.params.Q) a b s

/-- FQINV (41_scalar R188). -/
def execFqinv (a b : Reg) (s : State) : Host.Outcome State Fault Refusal :=
  scalarInverse (.fqinv a b) s.params.Q a b s

/-- R2F (41_scalar R189, R192): `x[A] <- g^e mod Q`. -/
def execR2f (a b : Reg) (s : State) : Host.Outcome State Fault Refusal :=
  scalarUnary (.r2f a b) s.params.Z s.params.emb a b s

/-- INGRP (41_scalar R190): total on every 32-bit value; the result goes to `x[A]` and FLAGS.GRP. -/
def execIngrp (a b : Reg) (s : State) : Host.Outcome State Fault Refusal :=
  runCommand (.ingrp a b) s [s.paramCheck]
    (.effect ((s.setX a (s.params.inG (s.val b)).toNat).setGrp (s.params.inG (s.val b))))

/-- F2R (41_scalar R191): the discrete logarithm, 0 with GRP = 0 for a non-member. -/
def execF2r (a b : Reg) (s : State) : Host.Outcome State Fault Refusal :=
  runCommand (.f2r a b) s [s.paramCheck]
    (.effect ((s.setX a (s.params.dlog (s.val b))).setGrp (s.params.inG (s.val b))))

/-- FZADD (41_scalar R193). -/
def execFzadd (a b c : Reg) (s : State) : Host.Outcome State Fault Refusal :=
  scalarBinary (.fzadd a b c) s.params.Z (addMod s.params.Z) a b c s

/-- FZSUB (41_scalar R194). -/
def execFzsub (a b c : Reg) (s : State) : Host.Outcome State Fault Refusal :=
  scalarBinary (.fzsub a b c) s.params.Z (subMod s.params.Z) a b c s

/-- FZMUL (41_scalar R195). -/
def execFzmul (a b c : Reg) (s : State) : Host.Outcome State Fault Refusal :=
  scalarBinary (.fzmul a b c) s.params.Z (mulMod s.params.Z) a b c s

/-- FZNORM (41_scalar R196): defined on `[0, 2Z)`. -/
def execFznorm (a b : Reg) (s : State) : Host.Outcome State Fault Refusal :=
  scalarUnary (.fznorm a b) (2 * s.params.Z) (normMod s.params.Z) a b s

/-- FZINV (41_scalar R197). -/
def execFzinv (a b : Reg) (s : State) : Host.Outcome State Fault Refusal :=
  scalarInverse (.fzinv a b) s.params.Z a b s

end Sys2Proof.Machine
end

