-- ==== Sys2Proof/Machine/System.lean ====
section
/-! DEFINITION. NOP, MOVI and MOVHI (40_system R170 to R172). They do not read the parameter set. -/

namespace Sys2Proof.Machine

/-- NOP (40_system R170): completes and changes nothing else. -/
def execNop (s : State) : Host.Outcome State Fault Refusal :=
  runCommand .nop s [] (.effect s)

/-- MOVI (40_system R171): `x[A] <- zext_32(imm16)`. -/
def execMovi (a : Reg) (imm : Imm16) (s : State) : Host.Outcome State Fault Refusal :=
  runCommand (.movi a imm) s [] (.effect (s.setX a imm.toNat))

/-- MOVHI (40_system R172): `x[A] <- imm16·2^16 + x[A][15:0]`. -/
def execMovhi (a : Reg) (imm : Imm16) (s : State) : Host.Outcome State Fault Refusal :=
  runCommand (.movhi a imm) s [] (.effect (s.setX a (imm.toNat * 2 ^ 16 + s.val a % 2 ^ 16)))

end Sys2Proof.Machine
end

