-- ==== Sys2Proof/Machine/VectorMatrix.lean ====
section
/-! DEFINITION. The thirteen vector and matrix commands (42_vector R210 to R226). Tests in the order of R210:
parameters, regions, range of every source element (and of β); the sources are read whole before the destination is
written. -/

namespace Sys2Proof.Machine

/-- A pointwise command on two vectors with elements below `m`: `r[j] = f a[j] b[j]` (42_vector R210, R226). -/
def vectorBinary (i : Instr) (m : Nat) (f : List Nat → List Nat → List Nat) (a b c d : Reg) (s : State) :
    Host.Outcome State Fault Refusal :=
  let n := s.val d
  let u := s.readElems (s.val b) n
  let v := s.readElems (s.val c) n
  runCommand i s
    [s.paramCheck, s.addrCheck [(s.val a, 2 * n), (s.val b, 2 * n), (s.val c, 2 * n)],
      (.range, allBelow m u && allBelow m v)]
    (.effect (s.writeElems (s.val a) (f u v)))

/-- A pointwise command on one vector with elements below `bound`: `r[j] = f a[j]` (42_vector R210, R226). -/
def vectorUnary (i : Instr) (bound : Nat) (f : Nat → Nat) (a b d : Reg) (s : State) :
    Host.Outcome State Fault Refusal :=
  let n := s.val d
  let u := s.readElems (s.val b) n
  runCommand i s
    [s.paramCheck, s.addrCheck [(s.val a, 2 * n), (s.val b, 2 * n)], (.range, allBelow bound u)]
    (.effect (s.writeElems (s.val a) (u.map f)))

/-- VQADD (42_vector R211). -/
def execVqadd (a b c d : Reg) (s : State) : Host.Outcome State Fault Refusal :=
  vectorBinary (.vqadd a b c d) s.params.Q (List.zipWith (addMod s.params.Q)) a b c d s

/-- VQSUB (42_vector R212). -/
def execVqsub (a b c d : Reg) (s : State) : Host.Outcome State Fault Refusal :=
  vectorBinary (.vqsub a b c d) s.params.Q (subVec s.params.Q) a b c d s

/-- VQMUL (42_vector R213). -/
def execVqmul (a b c d : Reg) (s : State) : Host.Outcome State Fault Refusal :=
  vectorBinary (.vqmul a b c d) s.params.Q (mulVec s.params.Q) a b c d s

/-- VQNORM (42_vector R214): elements in `[0, 2Q)`. -/
def execVqnorm (a b d : Reg) (s : State) : Host.Outcome State Fault Refusal :=
  vectorUnary (.vqnorm a b d) (2 * s.params.Q) (normMod s.params.Q) a b d s

/-- VQSCA (42_vector R215): `r[j] = (a[j] + β·b[j]) mod Q`, β below Q. -/
def execVqsca (a b c d e : Reg) (s : State) : Host.Outcome State Fault Refusal :=
  let n := s.val d
  let u := s.readElems (s.val b) n
  let v := s.readElems (s.val c) n
  runCommand (.vqsca a b c d e) s
    [s.paramCheck, s.addrCheck [(s.val a, 2 * n), (s.val b, 2 * n), (s.val c, 2 * n)],
      (.range, decide (s.val e < s.params.Q) && allBelow s.params.Q u && allBelow s.params.Q v)]
    (.effect (s.writeElems (s.val a) (scaVec s.params.Q (s.val e) u v)))

/-- VZSUB (42_vector R216). -/
def execVzsub (a b c d : Reg) (s : State) : Host.Outcome State Fault Refusal :=
  vectorBinary (.vzsub a b c d) s.params.Z (subVec s.params.Z) a b c d s

/-- VZNORM (42_vector R217): elements in `[0, 2Z)`. -/
def execVznorm (a b d : Reg) (s : State) : Host.Outcome State Fault Refusal :=
  vectorUnary (.vznorm a b d) (2 * s.params.Z) (normMod s.params.Z) a b d s

/-- VR2F (42_vector R218). -/
def execVr2f (a b d : Reg) (s : State) : Host.Outcome State Fault Refusal :=
  vectorUnary (.vr2f a b d) s.params.Z s.params.emb a b d s

/-- VINGRP (42_vector R219): the conjunction of the membership of every lane, in `x[A]` and FLAGS.GRP. -/
def execVingrp (a b d : Reg) (s : State) : Host.Outcome State Fault Refusal :=
  let n := s.val d
  let r := (s.readElems (s.val b) n).all s.params.inG
  runCommand (.vingrp a b d) s [s.paramCheck, s.addrCheck [(s.val b, 2 * n)]]
    (.effect ((s.setX a r.toNat).setGrp r))

/-- VF2R (42_vector R222): every lane is written, a non-member's with 0; GRP is the conjunction. -/
def execVf2r (a b d : Reg) (s : State) : Host.Outcome State Fault Refusal :=
  let n := s.val d
  let u := s.readElems (s.val b) n
  runCommand (.vf2r a b d) s [s.paramCheck, s.addrCheck [(s.val a, 2 * n), (s.val b, 2 * n)]]
    (.effect ((s.writeElems (s.val a) (u.map s.params.dlog)).setGrp (u.all s.params.inG)))

/-- SYNQ (42_vector R221, R223). -/
def execSynq (a b c : Reg) (s : State) : Host.Outcome State Fault Refusal :=
  let p := s.params
  let v := s.readElems (s.val b) p.N
  let V := s.readElems (s.val c) (p.K * (p.N - p.K))
  runCommand (.synq a b c) s
    [s.paramCheck,
      s.addrCheck [(s.val a, 2 * (p.N - p.K)), (s.val b, 2 * p.N), (s.val c, 2 * (p.K * (p.N - p.K)))],
      (.range, allBelow p.Q v && allBelow p.Q V)]
    (.effect (s.writeElems (s.val a) (p.syn V v)))

/-- SYNR (42_vector R221, R224): SYNQ of the embedded vector. -/
def execSynr (a b c : Reg) (s : State) : Host.Outcome State Fault Refusal :=
  let p := s.params
  let e := s.readElems (s.val b) p.N
  let V := s.readElems (s.val c) (p.K * (p.N - p.K))
  runCommand (.synr a b c) s
    [s.paramCheck,
      s.addrCheck [(s.val a, 2 * (p.N - p.K)), (s.val b, 2 * p.N), (s.val c, 2 * (p.K * (p.N - p.K)))],
      (.range, allBelow p.Z e && allBelow p.Q V)]
    (.effect (s.writeElems (s.val a) (p.syn V (p.embVec e))))

/-- EXPZ (42_vector R221, R225): an illegal word when P_MODE bit 0, as stored, is 0; this test belongs to decoding and
comes first (30_encoding R143). -/
def execExpz (a b c : Reg) (s : State) : Host.Outcome State Fault Refusal :=
  let p := s.params
  let eta := s.readElems (s.val b) p.M
  let Wm := s.readElems (s.val c) (p.M * (p.N - p.M))
  runCommand (.expz a b c) s
    [(.illegal, p.variant), s.paramCheck,
      s.addrCheck [(s.val a, 2 * p.N), (s.val b, 2 * p.M), (s.val c, 2 * (p.M * (p.N - p.M)))],
      (.range, allBelow p.Z eta && allBelow p.Z Wm)]
    (.effect (s.writeElems (s.val a) (p.expz Wm eta)))

end Sys2Proof.Machine
end

