-- ==== Sys2Proof/Machine/Dispatch.lean ====
section
/-! DEFINITION. What each command does: one arm per constructor, each one call of its meaning (30_encoding R140). -/

namespace Sys2Proof.Machine

def exec (i : Instr) (s : State) : Host.Outcome State Fault Refusal :=
  match i with
  | .nop => Sys2Proof.Machine.execNop s
  | .movi a imm => Sys2Proof.Machine.execMovi a imm s
  | .movhi a imm => Sys2Proof.Machine.execMovhi a imm s
  | .fqadd a b c => Sys2Proof.Machine.execFqadd a b c s
  | .fqsub a b c => Sys2Proof.Machine.execFqsub a b c s
  | .fqmul a b c => Sys2Proof.Machine.execFqmul a b c s
  | .fqnorm a b => Sys2Proof.Machine.execFqnorm a b s
  | .fqinv a b => Sys2Proof.Machine.execFqinv a b s
  | .r2f a b => Sys2Proof.Machine.execR2f a b s
  | .ingrp a b => Sys2Proof.Machine.execIngrp a b s
  | .f2r a b => Sys2Proof.Machine.execF2r a b s
  | .fzadd a b c => Sys2Proof.Machine.execFzadd a b c s
  | .fzsub a b c => Sys2Proof.Machine.execFzsub a b c s
  | .fzmul a b c => Sys2Proof.Machine.execFzmul a b c s
  | .fznorm a b => Sys2Proof.Machine.execFznorm a b s
  | .fzinv a b => Sys2Proof.Machine.execFzinv a b s
  | .vqadd a b c d => Sys2Proof.Machine.execVqadd a b c d s
  | .vqsub a b c d => Sys2Proof.Machine.execVqsub a b c d s
  | .vqmul a b c d => Sys2Proof.Machine.execVqmul a b c d s
  | .vqnorm a b d => Sys2Proof.Machine.execVqnorm a b d s
  | .vqsca a b c d e => Sys2Proof.Machine.execVqsca a b c d e s
  | .vr2f a b d => Sys2Proof.Machine.execVr2f a b d s
  | .vingrp a b d => Sys2Proof.Machine.execVingrp a b d s
  | .vf2r a b d => Sys2Proof.Machine.execVf2r a b d s
  | .vzsub a b c d => Sys2Proof.Machine.execVzsub a b c d s
  | .vznorm a b d => Sys2Proof.Machine.execVznorm a b d s
  | .synq a b c => Sys2Proof.Machine.execSynq a b c s
  | .synr a b c => Sys2Proof.Machine.execSynr a b c s
  | .expz a b c => Sys2Proof.Machine.execExpz a b c s
  | .xinit => Sys2Proof.Machine.execXinit s
  | .xabs b c => Sys2Proof.Machine.execXabs b c s
  | .xabsi imm => Sys2Proof.Machine.execXabsi imm s
  | .xfin => Sys2Proof.Machine.execXfin s
  | .xsqz a b => Sys2Proof.Machine.execXsqz a b s
  | .hash a b c => Sys2Proof.Machine.execHash a b c s
  | .smpq a d => Sys2Proof.Machine.execSmpq a d s
  | .smpqs a d => Sys2Proof.Machine.execSmpqs a d s
  | .smpz a d => Sys2Proof.Machine.execSmpz a d s
  | .fwexp a b => Sys2Proof.Machine.execFwexp a b s
  | .pack a b d sel => Sys2Proof.Machine.execPack a b d sel s
  | .unpack a b d sel => Sys2Proof.Machine.execUnpack a b d sel s
  | .stbuild a b c => Sys2Proof.Machine.execStbuild a b c s
  | .stdisc a b c d e => Sys2Proof.Machine.execStdisc a b c d e s
  | .streb a b c d e => Sys2Proof.Machine.execStreb a b c d e s
  | .mtroot a b => Sys2Proof.Machine.execMtroot a b s
  | .mtproof a b d e => Sys2Proof.Machine.execMtproof a b d e s
  | .mtrecomp a b c d e => Sys2Proof.Machine.execMtrecomp a b c d e s
  | .keygen a b => Sys2Proof.Machine.execKeygen a b s
  | .sign a b c d => Sys2Proof.Machine.execSign a b c d s
  | .verify a b c d e => Sys2Proof.Machine.execVerify a b c d e s

end Sys2Proof.Machine
end

