-- ==== Sys2Proof/Machine/Port.lean ====
section
/-! DEFINITION. The host port: the register map, host reads and writes of REG and BUF while idle and while busy, and the
two resets (10_state R44 to R51, R68, R77; 20_memory R90, R104; 70_reset R500). The CMD write that issues a command is
in Machine/Issue.lean. -/

namespace Sys2Proof.Machine

/-! ### The register map (10_state R77) -/

/-- The parameter register at index `k`, its offset being `0x080 + 4·k` (10_state R77); 0 past the last. -/
def Params.at (p : Params) : Nat → Word
  | 0 => p.mode
  | 1 => p.lambda
  | 2 => p.q
  | 3 => p.z
  | 4 => p.g
  | 5 => p.n
  | 6 => p.k
  | 7 => p.m
  | 8 => p.t
  | 9 => p.w
  | 10 => p.seedb
  | 11 => p.saltb
  | 12 => p.digb
  | 13 => p.stmax
  | 14 => p.mtmax
  | _ => 0

/-- Writes the parameter register at index `k`: all 32 bits, as written (10_state R51). -/
def Params.put (p : Params) (k : Nat) (v : Word) : Params :=
  match k with
  | 0 => { p with mode := v }
  | 1 => { p with lambda := v }
  | 2 => { p with q := v }
  | 3 => { p with z := v }
  | 4 => { p with g := v }
  | 5 => { p with n := v }
  | 6 => { p with k := v }
  | 7 => { p with m := v }
  | 8 => { p with t := v }
  | 9 => { p with w := v }
  | 10 => { p with seedb := v }
  | 11 => { p with saltb := v }
  | 12 => { p with digb := v }
  | 13 => { p with stmax := v }
  | 14 => { p with mtmax := v }
  | _ => p

/-- The general register with the number `k`, for `k < 16`. -/
def regOf (k : Nat) : Reg := BitVec.ofNat 4 k

/-- A derived size as the host reads it: 0 when the parameter set is invalid (10_state R68). -/
def State.derivedSize (s : State) (n : Nat) : Word := if s.params.valid then BitVec.ofNat 32 n else 0

/-- PSEQ as the host reads it: 0 when idle or when no protocol command runs; else OP, exact, and a STEP drawn among the
steps of the command (10_state R42, log 7). What it shows for an illegal word with a protocol opcode is log 22. -/
def State.pseqRead (s : State) : Word :=
  let op := s.pseq.toNat % 4
  if s.busy && op != 0 then pseqWord op (1 + Config.busyStep s.freeCount % pseqSteps op) else s.pseq

/-- What a host read of REG returns at offset `off`; CMD, unlisted and unaligned offsets read 0 (10_state R48, R77;
20_memory R90). -/
def State.regRead (s : State) (off : Nat) : Word :=
  if off % 4 ≠ 0 then 0
  else if off = 0x000 then s.ctrl
  else if off = 0x004 then s.statusWord
  else if off = 0x008 then s.errcode
  else if off = 0x00C then s.errinfo
  else if off = 0x014 then s.flags
  else if off = 0x018 then s.vfail
  else if off = 0x01C then s.pseqRead
  else if off = 0x020 then s.xph.toWord
  else if 0x040 ≤ off ∧ off < 0x080 then s.getX (regOf ((off - 0x040) / 4))
  else if 0x080 ≤ off ∧ off < 0x0BC then s.params.at ((off - 0x080) / 4)
  else if off = 0x0C0 then s.derivedSize s.params.pkBytes
  else if off = 0x0C4 then s.derivedSize s.params.skBytes
  else if off = 0x0C8 then s.derivedSize s.params.sigBytes
  else 0

/-- One free value has been drawn for the host's read of PSEQ, when the read draws one (log 7). -/
def State.afterRegRead (s : State) (off : Nat) : State :=
  if off = 0x01C ∧ s.busy = true ∧ s.pseq.toNat % 4 ≠ 0 then { s with freeCount := s.freeCount + 1 } else s

/-! ### Writes to REG -/

/-- A write of CTRL, honoured at any time: SRST = 1 is a soft reset, which leaves CTRL at its reset value (log 9); else IE
and EIE are stored and the other bits ignored (10_state R44, 70_reset R500). -/
def State.ctrlWrite (s : State) (v : Word) : State :=
  if v.getLsbD 0 then s.resetBlock else { s with ctrl := v &&& 0x6#32 }

/-- A write of REG while no command runs, other than the CMD write: read-only and unlisted offsets ignore it
(10_state R77, R33, R51). -/
def State.regWriteIdle (s : State) (off : Nat) (v : Word) : State :=
  if off % 4 ≠ 0 then s
  else if off = 0x000 then s.ctrlWrite v
  else if off = 0x004 then s.clearStatus v
  else if 0x040 ≤ off ∧ off < 0x080 then s.setX (regOf ((off - 0x040) / 4)) v.toNat
  else if 0x080 ≤ off ∧ off < 0x0BC then { s with params := s.params.put ((off - 0x080) / 4) v }
  else s

/-- A write of REG while a command runs: CTRL and STATUS are honoured, a write of CMD, x or P_ is dropped and sets OVR;
an unlisted or unaligned offset ignores writes at any time (20_memory R104, R90; 10_state R77; 93 U12, U13). That a
read-only register ignores them without setting OVR, as it does while idle, is the model's choice, log 8. -/
def State.regWriteBusy (s : State) (off : Nat) (v : Word) : State :=
  if off % 4 ≠ 0 then s
  else if off = 0x000 then s.ctrlWrite v
  else if off = 0x004 then s.clearStatus v
  else if off = 0x010 ∨ (0x040 ≤ off ∧ off < 0x0BC) then s.setOvr
  else s

/-! ### BUF (20_memory R90, R104) -/

/-- A run of bytes lies in BUF: at least one byte, none past BUF_BYTES (20_memory R90). -/
def State.inBuf (s : State) (addr n : Nat) : Bool := decide (1 ≤ n ∧ addr + n ≤ s.bufBytes)

/-- What a host read of BUF returns: the bytes; unspecified ones while a command runs; zeros outside BUF
(20_memory R90, R104, log 6). -/
def State.bufRead (s : State) (addr n : Nat) : Bytes :=
  if s.inBuf addr n then
    if s.busy then (List.range n).map fun j => Config.busyByte (s.freeCount + j) else s.readBytes addr n
  else List.replicate n 0

/-- The free values a BUF read has drawn (log 6). -/
def State.afterBufRead (s : State) (addr n : Nat) : State :=
  if s.inBuf addr n && s.busy then { s with freeCount := s.freeCount + n } else s

/-- A host write of BUF: outside BUF it has no effect; while a command runs it is dropped and sets OVR
(20_memory R90, R104; 93 U12). A run of length 0 or partly outside BUF is log 19. -/
def State.bufWrite (s : State) (addr : Nat) (bs : Bytes) : State :=
  if s.inBuf addr bs.length then
    if s.busy then s.setOvr else s.writeBytes addr bs
  else s

/-! ### One access -/

/-- One host access that issues no command. -/
def State.access (s : State) : HostAccess → State
  | .regRead off => { s.afterRegRead off with reply := .word (s.regRead off) }
  | .regWrite off v => if s.busy then s.regWriteBusy off v else s.regWriteIdle off v
  | .bufRead addr n => { s.afterBufRead addr n with reply := .bytes (s.bufRead addr n) }
  | .bufWrite addr bs => s.bufWrite addr bs
  | .hardReset => s.resetBlock

end Sys2Proof.Machine
end

