-- ==== Sys2Proof/Machine/Issue.lean ====
section
/-! DEFINITION. Issuing a command word and one step of the machine's outside (10_state R41, 43_xof R267). -/

namespace Sys2Proof.Machine

/-- Runs a command word to its completion: decode, then the command; an illegal word faults with ERR_ILLEGAL
(30_encoding R141, R142; 60_exceptions R453). -/
def runWord (w : Word) (s : State) : Host.Outcome State Fault Refusal :=
  match decode w with
  | .ok i => exec i s
  | .error _ => .next (s.takeFault .illegal w)

/-- The host's next access lands while the command in progress still runs. -/
def accessesWhileBusy : List HostEvent → Bool
  | e :: _ => e.whileBusy
  | [] => false

/-- The CMD write of `w` while no command runs (10_state R41): the command runs to its end in this step, unless the
host's script has an access land while it runs; then BUSY is 1 after this step. -/
def issue (w : Word) (s : State) : Host.Outcome State Fault Refusal :=
  if accessesWhileBusy s.host then .next (s.start w) else runWord w s

/-- One access of the host, taken off its script; the CMD write at offset 0x010 issues a command when none runs
(10_state R41, R48). -/
def hostStep (a : HostAccess) (s : State) : Host.Outcome State Fault Refusal :=
  match a with
  | .regWrite 0x010 v => if s.busy then .next (s.access (.regWrite 0x010 v)) else issue v s
  | a => .next (s.access a)

/-- The step of a machine whose command `w` is in progress: the host's access if one lands while it runs, else the
command goes on to its end (10_state R41, 20_memory R104). -/
def busyStep (w : Word) (s : State) : Host.Outcome State Fault Refusal :=
  match s.host with
  | e :: rest => if e.whileBusy then hostStep e.access { s with host := rest } else runWord w s
  | [] => runWord w s

/-- The step of an idle machine: the host's next access; with none to come nothing changes (60_exceptions R464). -/
def idleStep (s : State) : Host.Outcome State Fault Refusal :=
  match s.host with
  | e :: rest => hostStep e.access { s with host := rest }
  | [] => .next s

/-- The script without the accesses that were to land while an earlier command ran. -/
def awaitIdle : List HostEvent → List HostEvent
  | e :: rest => if e.whileBusy then awaitIdle rest else e :: rest
  | [] => []

/-- The host access that issues the command word with these bits (bits above the first `nbits` are 0). -/
def cmdWrite (nbits w : Nat) : HostEvent := ⟨false, .regWrite 0x010 (BitVec.ofNat 32 (w % 2 ^ nbits))⟩

end Sys2Proof.Machine
end

