-- ==== Sys2Proof/Machine/Step.lean ====
section
/-! DEFINITION. One step of CROSS-CORE: one host access, or the command in progress (10_state R41). Commands are not
fetched from memory (20_memory R105): the step takes the command word from the host's write of CMD. -/

namespace Sys2Proof.Machine

/-- One step: an idle machine takes the host's next access, a CMD write running its command to the end; a busy machine
takes an access that lands while the command runs, or ends the command. -/
def step (s : State) : Host.Outcome State Fault Refusal :=
  match s.running with
  | none => idleStep s
  | some w => busyStep w s

/-- The state whose very next step is the host's write of this word to CMD: no command runs, and the host's script goes
on with that write (log 1). -/
def State.withFetchWord (s : State) (nbits w : Nat) : State :=
  { s with running := none, host := cmdWrite nbits w :: awaitIdle s.host }

end Sys2Proof.Machine
end

