-- ==== Sys2Proof/Safety.lean ====
section
/-! DEFINITION. The terms claims use: what a command leaves unchanged, how it ends, and what a safe state is. -/

namespace Sys2Proof.Machine

/-- What a command may change besides ending: general registers, byte regions of BUF (address and length), bits of
FLAGS, VFAIL, the XOF context, and the entropy port's position. Nothing by default. -/
structure Writes where
  regs : List Reg := []
  regions : List Region := []
  flags : List Nat := []
  vfail : Bool := false
  xof : Bool := false
  entropy : Bool := false

/-- `a` lies in none of the regions. -/
def Outside (rs : List Region) (a : Nat) : Prop := ∀ g ∈ rs, a < g.1 ∨ g.1 + g.2 ≤ a

/-- Everything but the registers, bytes, flags and units that `e` lists is the same in both states, the way a command
ends apart (10_state R43; 20_memory R101; 40_system R170). -/
structure Kept (e : Writes) (s t : State) : Prop where
  regs : ∀ r, r ∉ e.regs → t.getX r = s.getX r
  bytes : ∀ a, Outside e.regions a → t.byteAt a = s.byteAt a
  flags : ∀ k, k ∉ e.flags → t.flags.getLsbD k = s.flags.getLsbD k
  vfail : e.vfail = false → t.vfail = s.vfail
  xof : e.xof = false → t.xph = s.xph ∧ t.xin = s.xin ∧ t.xpos = s.xpos
  entropy : e.entropy = false → t.entropyIn = s.entropyIn ∧ t.entropyCount = s.entropyCount
  params : t.params = s.params
  ctrl : t.ctrl = s.ctrl
  size : t.bufBytes = s.bufBytes
  outside : t.xofKnown = s.xofKnown ∧ t.freeCount = s.freeCount ∧ t.host = s.host ∧ t.reply = s.reply
  attempts : t.attempts = s.attempts

/-- The command has ended without a fault: BUSY 0, DONE 1, PSEQ 0, the other status bits and the fault registers as
before (10_state R41, R45 to R47). -/
structure Ended (s t : State) : Prop where
  busy : t.running = none
  pseq : t.pseq = 0
  done : t.done = true
  err : t.err = s.err
  ovr : t.ovr = s.ovr
  errcode : t.errcode = s.errcode
  errinfo : t.errinfo = s.errinfo

/-- The command faults with `c`: the exception entry, ERRINFO recording the command's own word (60_exceptions R452). -/
def FaultsWith (i : Instr) (s : State) (c : FaultCode) : Prop := exec i s = .next (s.takeFault c (encode i))

/-- The command completes with its own effect: it ends without a fault, changes nothing outside `e`, and the state it
leaves satisfies `P`. -/
def Completes (i : Instr) (s : State) (e : Writes) (P : State → Prop) : Prop :=
  ∃ t, exec i s = .next t ∧ Ended s t ∧ Kept e s t ∧ P t

/-- A command follows its rule: the tests in order, the first one that fails faulting it with that test's code and
nothing else; when every test holds it completes, changing nothing outside `e` and leaving a state with `P`
(60_exceptions R452, R453). -/
def Follows (i : Instr) (s : State) : List (FaultCode × Prop) → Writes → (State → Prop) → Prop
  | [], e, P => Completes i s e P
  | (c, ok) :: rest, e, P => (¬ok → FaultsWith i s c) ∧ (ok → Follows i s rest e P)

/-- `w` is the word of `i`, and every word with the opcode `op` and a bit of `zero` set, the bits of the fields the command
does not use, is illegal: issued, it faults with ERR_ILLEGAL and nothing else (30_encoding R140, R141). -/
def WordOf (op : Nat) (zero : Word) (i : Instr) (w : Word) : Prop :=
  encode i = w ∧ (i.wellFormed = true → decode w = .ok i) ∧
    ∀ (v : Word) (s : State), (opcodeOf v).toNat = op → v &&& zero ≠ 0 → runWord v s = .next (s.takeFault .illegal v)

/-- Every region lies inside BUF, on unbounded integers; a region of length 0 always does (20_memory R91). -/
def Fits (s : State) (rs : List Region) : Prop := ∀ g ∈ rs, g.2 = 0 ∨ g.1 + g.2 ≤ s.bufBytes

/-- Every element of the vector of n elements at `addr` is below `m` (20_memory R100). -/
def ElemsBelow (s : State) (addr n m : Nat) : Prop := ∀ j < n, Memory.elem s.buf addr j < m

/-- The T bitmap bytes at `addr` are each 0 or 1 (20_memory R100). -/
def BitmapAt (s : State) (addr : Nat) : Prop := ∀ i < s.params.T, s.byteAt (addr + i) = 0 ∨ s.byteAt (addr + i) = 1

/-- The bytes at `addr` are these. -/
def Holds (t : State) (addr : Nat) (bs : Bytes) : Prop := ∀ j, ∀ h : j < bs.length, t.byteAt (addr + j) = bs[j]

/-- The XOF context at its reset value (43_xof R258). -/
def ContextReset (t : State) : Prop := t.xph = .idle ∧ t.xin = [] ∧ t.xpos = 0

/-- Every piece of the block's own state is at its reset value (70_reset R501). -/
structure AtReset (t : State) : Prop where
  regs : ∀ r, t.getX r = 0
  ctrl : t.ctrl = 0
  status : t.statusWord = 0
  errcode : t.errcode = 0
  errinfo : t.errinfo = 0
  flags : t.flags = 0
  vfail : t.vfail = 0
  pseq : t.pseq = 0
  params : t.params = Params.reset
  context : ContextReset t
  bytes : ∀ a, t.byteAt a = 0
  idle : t.running = none

/-- A safe state of the control registers: reserved bits read 0, a fault is recorded exactly while ERR is 1, PSEQ is 0
when no command runs, an accepted signature leaves VFAIL 0, and the XOF context has one of its three forms
(10_state R42 to R49, R69; 60_exceptions R451, R457). `pseqBusy` is no rule of the spec: what the stored PSEQ holds while
a command runs is the model's choice (logs 7 and 22). -/
structure ControlOk (s : State) : Prop where
  ctrl : s.ctrl &&& 0xFFFFFFF9#32 = 0
  status : s.status &&& 0xFFFFFFF1#32 = 0
  flags : s.flags &&& 0xFFFFFFF0#32 = 0
  vfail : s.vfail &&& 0xFFFFFFF0#32 = 0
  noFault : s.err = false → s.errcode = 0 ∧ s.errinfo = 0
  fault : s.err = true → ∃ c : FaultCode, s.errcode = c.toWord
  pseqIdle : s.running = none → s.pseq = 0
  pseqBusy : ∀ w, s.running = some w → s.pseq = pseqWord (pseqOp w) 1
  accepted : s.acc = true → s.vfail = 0
  idleContext : s.xph = .idle → s.xin = [] ∧ s.xpos = 0
  absorbing : s.xph = .absorb → s.xpos = 0

/-- A safe state of BUF: canonical, and no byte listed at or past BUF_BYTES (10_state R71, 20_memory R91). -/
structure BufferOk (s : State) : Prop where
  wf : Memory.wf s.buf
  inside : ∀ c ∈ s.buf, c.1 < s.bufBytes

/-- A run is safe when every step gives a next state: nothing stops the machine (60_exceptions R450). -/
def NeverStops (s : State) : Prop := ∃ t, step s = .next t

/-! ### What the rules say of derived values, without saying how they are computed -/

/-- `Draw(m)` from the sampler state `d` ends with the value `v` in the state `e`: after the refill, the window is taken
when it is below m; else one bit is dropped and the draw goes on (43_xof R260). -/
inductive DrawsTo (S : Nat → Byte) (m : Nat) : Sampler → Nat → Sampler → Prop where
  | accept (d : Sampler) (h : (d.refill S).window (bits m) < m) :
      DrawsTo S m d ((d.refill S).window (bits m)) ((d.refill S).drop (bits m))
  | reject (d : Sampler) (v : Nat) (e : Sampler) (h : ¬ (d.refill S).window (bits m) < m)
      (next : DrawsTo S m ((d.refill S).drop 1) v e) : DrawsTo S m d v e

/-- Draws one after the other below the bounds in turn, each ending (43_xof R261). -/
inductive DrawsAll (S : Nat → Byte) : List Nat → Sampler → List Nat → Sampler → Prop where
  | nil (d : Sampler) : DrawsAll S [] d [] d
  | cons (m : Nat) (ms : List Nat) (d e f : Sampler) (v : Nat) (vs : List Nat) (head : DrawsTo S m d v e)
      (tail : DrawsAll S ms e vs f) : DrawsAll S (m :: ms) d (v :: vs) f

/-- `seed` gives the seeds of a seed tree: the root, and at every internal node the two halves of its expansion
(45_seed_tree R321). -/
structure IsSeedTree (X : Bytes → Nat → Byte) (p : Params) (root salt : Bytes) (seed : Nat → Bytes) : Prop where
  root : seed 0 = root
  left : ∀ n < p.T - 1, seed (2 * n + 1) = streamBytes (X (framed (seed n ++ salt) n)) 0 p.seedBytes
  right : ∀ n < p.T - 1, seed (2 * n + 2) = streamBytes (X (framed (seed n ++ salt) n)) p.seedBytes p.seedBytes

/-- `node` gives the nodes of the Merkle tree over T leaf digests (46_merkle R350). -/
structure IsMerkleTree (X : Bytes → Nat → Byte) (p : Params) (leaf node : Nat → Bytes) : Prop where
  leaves : ∀ i < p.T, node (p.T - 1 + i) = leaf i
  inner : ∀ n < p.T - 1, node n = hashOf X p (node (2 * n + 1) ++ node (2 * n + 2))

/-- The root over T leaf digests in flat mode: the hash of the hashes of the four blocks (46_merkle R355). -/
def flatRootOf (X : Bytes → Nat → Byte) (p : Params) (leaf : Nat → Bytes) : Bytes :=
  hashOf X p (((List.range 4).map fun k =>
    hashOf X p (((List.range' (k * p.T / 4) ((k + 1) * p.T / 4 - k * p.T / 4)).map leaf).flatten)).flatten)

/-- `full` marks the nodes all of whose leaves have bit 1 (45_seed_tree R322). -/
structure IsFull (b : List Bool) (full : Nat → Bool) : Prop where
  leaves : ∀ i < b.length, full (b.length - 1 + i) = b.getD i false
  inner : ∀ n < b.length - 1, full n = (full (2 * n + 1) && full (2 * n + 2))

/-- `known` marks the nodes with a leaf of bit 0 (46_merkle R351). -/
structure IsKnown (b : List Bool) (known : Nat → Bool) : Prop where
  leaves : ∀ i < b.length, known (b.length - 1 + i) = !b.getD i false
  inner : ∀ n < b.length - 1, known n = (known (2 * n + 1) || known (2 * n + 2))

/-- The bitmap of the T bytes at `addr` (00_scope R21). -/
def bitmapAt (s : State) (addr : Nat) : List Bool := bitmapOf (s.readBytes addr s.params.T)

/-- `w` is BITS(m): the least w with `2^w ≥ m` (00_scope R12). -/
def IsWidth (m w : Nat) : Prop := m ≤ 2 ^ w ∧ ∀ c < w, 2 ^ c < m

/-- Bit k of the bit stream of the bytes at `addr`: bit `k mod 8` of byte `k div 8` (44_codec R300). -/
def streamBit (s : State) (addr k : Nat) : Bool := (s.byteAt (addr + k / 8)).getLsbD (k % 8)

end Sys2Proof.Machine
end

