-- ==== Sys2Proof/Certificates/Slice0/Obligations.lean ====
section
/-! DEFINITION. The statements for the provers. `Follows`, `Completes`, `FaultsWith`, `Kept` and the other terms are those
of Sys2Proof/Safety.lean. -/

namespace Sys2Proof.Machine

/-! ### Shapes that several statements share -/

/-- A two-operand scalar command: its encoding, its tests, and `x[A] <- f a b` for operands below m (41_scalar R180). -/
def ScalarBinaryRule (op : Nat) (i : Reg → Reg → Reg → Instr) (m : Params → Nat) (f : Nat → Nat → Nat → Nat) : Prop :=
  ∀ (s : State) (a b c : Reg), WordOf op 0x000FFF#32 (i a b c) (wordR op a b c 0 0 0) ∧
    Follows (i a b c) s
      [(.param, s.params.valid = true), (.range, s.val b < m s.params ∧ s.val c < m s.params)]
      { regs := [a] } (fun t => t.val a = f (m s.params) (s.val b) (s.val c))

/-- A one-operand scalar command: its encoding, its tests, and `x[A] <- f v` for an operand below `bound`. -/
def ScalarUnaryRule (op : Nat) (i : Reg → Reg → Instr) (bound : Params → Nat) (f : Params → Nat → Nat) : Prop :=
  ∀ (s : State) (a b : Reg), WordOf op 0x00FFFF#32 (i a b) (wordR op a b 0 0 0 0) ∧
    Follows (i a b) s [(.param, s.params.valid = true), (.range, s.val b < bound s.params)]
      { regs := [a] } (fun t => t.val a = f s.params (s.val b))

/-- A modular inverse: `x[A]` becomes the one r in `[1, m)` with `(a · r) mod m = 1` (41_scalar R188, R197). -/
def InverseRule (op : Nat) (i : Reg → Reg → Instr) (m : Params → Nat) : Prop :=
  ∀ (s : State) (a b : Reg), WordOf op 0x00FFFF#32 (i a b) (wordR op a b 0 0 0 0) ∧
    Follows (i a b) s
      [(.param, s.params.valid = true), (.range, s.val b < m s.params),
        (.domain, Nat.gcd (s.val b) (m s.params) = 1)]
      { regs := [a] } (fun t => 1 ≤ t.val a ∧ t.val a < m s.params ∧ s.val b * t.val a % m s.params = 1 ∧
        ∀ r, 1 ≤ r → r < m s.params → s.val b * r % m s.params = 1 → r = t.val a)

/-- A pointwise command on two vectors: encoding, tests, and `r[j] = f a[j] b[j]` in every lane (42_vector R210). -/
def VectorBinaryRule (op : Nat) (i : Reg → Reg → Reg → Reg → Instr) (m : Params → Nat) (f : Nat → Nat → Nat → Nat) :
    Prop :=
  ∀ (s : State) (a b c d : Reg), Memory.wf s.buf → WordOf op 0x0000FF#32 (i a b c d) (wordR op a b c d 0 0) ∧
    Follows (i a b c d) s
      [(.param, s.params.valid = true),
        (.addr, Fits s [(s.val a, 2 * s.val d), (s.val b, 2 * s.val d), (s.val c, 2 * s.val d)]),
        (.range, ElemsBelow s (s.val b) (s.val d) (m s.params) ∧ ElemsBelow s (s.val c) (s.val d) (m s.params))]
      { regions := [(s.val a, 2 * s.val d)] }
      (fun t => ∀ j < s.val d, Memory.elem t.buf (s.val a) j =
        f (m s.params) (Memory.elem s.buf (s.val b) j) (Memory.elem s.buf (s.val c) j))

/-- A pointwise command on one vector with elements below `bound`: `r[j] = f a[j]` in every lane. -/
def VectorUnaryRule (op : Nat) (i : Reg → Reg → Reg → Instr) (bound : Params → Nat) (f : Params → Nat → Nat) : Prop :=
  ∀ (s : State) (a b d : Reg), Memory.wf s.buf → WordOf op 0x00F0FF#32 (i a b d) (wordR op a b 0 d 0 0) ∧
    Follows (i a b d) s
      [(.param, s.params.valid = true), (.addr, Fits s [(s.val a, 2 * s.val d), (s.val b, 2 * s.val d)]),
        (.range, ElemsBelow s (s.val b) (s.val d) (bound s.params))]
      { regions := [(s.val a, 2 * s.val d)] }
      (fun t => ∀ j < s.val d, Memory.elem t.buf (s.val a) j = f s.params (Memory.elem s.buf (s.val b) j))

/-- A sampling command below m with offset `off`: encoding, tests, and, when every draw ends within the windows one
step of the model examines, the values and XPOS; else the command is still running (43_xof R261 to R264, R267; log 5). -/
def SampleRule (op : Nat) (i : Reg → Reg → Instr) (m : Params → Nat) (off : Nat) : Prop :=
  ∀ (s : State) (a d : Reg), Memory.wf s.buf → WordOf op 0x0FF0FF#32 (i a d) (wordR op a 0 0 d 0 0) ∧
    (s.params.valid ≠ true → FaultsWith (i a d) s .param) ∧
    (s.params.valid = true → s.xph ≠ .squeeze → FaultsWith (i a d) s .xofseq) ∧
    (s.params.valid = true → s.xph = .squeeze → ¬Fits s [(s.val a, 2 * s.val d)] → FaultsWith (i a d) s .addr) ∧
    (s.params.valid = true → s.xph = .squeeze → Fits s [(s.val a, 2 * s.val d)] →
      ∀ vs f, DrawsAll (s.xof s.xin) (List.replicate (s.val d) (m s.params)) (Sampler.fresh s.xpos) vs f →
        ∃ least, ∀ k,
          (least ≤ k → Completes (i a d) { s with attempts := k } { regions := [(s.val a, 2 * s.val d)], xof := true }
            (fun t => (∀ j < s.val d, Memory.elem t.buf (s.val a) j = vs.getD j 0 + off) ∧ t.xpos = f.pos ∧
              t.xph = .squeeze ∧ t.xin = s.xin)) ∧
          (k < least → exec (i a d) { s with attempts := k } =
            .next (State.stayBusy { s with attempts := k } (encode (i a d))))) ∧
    (s.params.valid = true → s.xph = .squeeze → Fits s [(s.val a, 2 * s.val d)] →
      sample (s.xof s.xin) s.attempts (m s.params) (s.val d) off s.xpos = none →
      exec (i a d) s = .next (s.stayBusy (encode (i a d))))

end Sys2Proof.Machine

open Sys2Proof Sys2Proof.Machine

/-! ### The machine around the commands -/

/-- Every register reads 0 after reset, BUF holds zeros only, the XOF context is idle and empty, no interrupt is
asserted and the parameter set is invalid (70_reset R501). -/
def Obligations.ResetLeavesEverythingZero : Prop :=
  AtReset State.reset ∧ (∀ off, State.reset.regRead off = 0) ∧ State.reset.params.valid = false ∧
    State.reset.irq = false

/-- A hard reset and a write of CTRL with SRST = 1 put every piece of state at its reset value in one step, whether a
command runs or not; the machine is then idle (70_reset R500). What is kept is the outside world, log 12. That IE and EIE are 0
after such a write, whatever it writes to them (the spec says only that writes to them are honoured, 10_state R44), is the
model's choice, log 9. -/
def Obligations.EitherResetEndsEverything : Prop :=
  ∀ (s : State) (e : HostEvent) (rest : List HostEvent), s.host = e :: rest → (s.running = none ∨ e.whileBusy = true) →
    (e.access = .hardReset ∨ ∃ v : Word, v.getLsbD 0 = true ∧ e.access = .regWrite 0x000 v) →
    ∃ t, step s = .next t ∧ AtReset t ∧ t.host = rest ∧ t.bufBytes = s.bufBytes

/-- The words the spec writes out decode to the commands it names (30_encoding R140, 95_test_vectors section 3). -/
def Obligations.DecodeReadsWordsOfTheSpec : Prop :=
  decode 0x00000000#32 = .ok .nop ∧ decode 0x0130007F#32 = .ok (.movi 3 0x7F) ∧
  decode 0x10312000#32 = .ok (.fqadd 3 1 2) ∧ decode 0x24123450#32 = .ok (.vqsca 1 2 3 4 5) ∧
  decode 0x2C123000#32 = .ok (.expz 1 2 3) ∧ decode 0x31023000#32 = .ok (.xabs 2 3) ∧
  decode 0x36100400#32 = .ok (.smpq 1 4) ∧ decode 0x40120401#32 = .ok (.pack 1 2 4 1) ∧
  decode 0x51123450#32 = .ok (.stdisc 1 2 3 4 5) ∧ decode 0x59120450#32 = .ok (.mtproof 1 2 4 5) ∧
  decode 0x61123400#32 = .ok (.sign 1 2 3 4) ∧ decode 0x62123450#32 = .ok (.verify 1 2 3 4 5) ∧
  decode 0x00000001#32 = .error .fieldNotZero ∧ decode 0x0131007F#32 = .error .fieldNotZero ∧
  decode 0x40120402#32 = .error .fieldNotZero ∧ decode 0xFFFFFFFF#32 = .error .undefinedOpcode

/-- Every well-formed command decodes from its own word, whatever its operands (30_encoding R162). -/
def Obligations.DecodeOfEncodeIsTheCommand : Prop :=
  ∀ i : Instr, i.wellFormed = true → decode (encode i) = .ok i

/-- A word that decodes is the word of the well-formed command it decodes to: no bit of a legal word is ignored
(30_encoding R141). -/
def Obligations.LegalWordIsTheEncodingOfItsCommand : Prop :=
  ∀ (w : Word) (i : Instr), decode w = .ok i → i.wellFormed = true ∧ encode i = w

/-- The legal words are exactly those that match a row of the opcode table under its mask, and no word matches two
rows (30_encoding R141, R142). -/
def Obligations.LegalWordsAreTheOpcodeTable : Prop :=
  (∀ w : Word, (∃ i, decode w = .ok i) ↔ ∃ r ∈ opcodeRows, w &&& r.mask = r.pattern) ∧
  opcodeRows.Pairwise (fun q r => ∀ w : Word, ¬(w &&& q.mask = q.pattern ∧ w &&& r.mask = r.pattern))

/-- A word that does not decode faults with ERR_ILLEGAL when the host issues it, whatever the machine's state: BUSY 0,
DONE 1, PSEQ 0, ERR 1, with ERRCODE and ERRINFO recording it when ERR was 0 and kept when ERR was 1; it does nothing else
(30_encoding R141, R142; 60_exceptions R452, R454). When an access of the host is to land before the fault, the issuing
step only makes BUSY 1, and the fault comes in the step in which no such access is next: the model's choice, log 1. -/
def Obligations.IllegalWordFaults : Prop :=
  ∀ (s : State) (w : Word) (e : DecodeError), decode w = .error e →
    let faulted := fun (u t : State) => Kept {} u t ∧ t.running = none ∧ t.pseq = 0 ∧ t.done = true ∧ t.err = true ∧
      t.ovr = u.ovr ∧ (u.err = false → t.errcode = 1 ∧ t.errinfo = w) ∧
      (u.err = true → t.errcode = u.errcode ∧ t.errinfo = u.errinfo)
    (∀ (b : Bool) (rest : List HostEvent), s.running = none → s.host = ⟨b, .regWrite 0x010 w⟩ :: rest →
      (accessesWhileBusy rest = false → ∃ t, step s = .next t ∧ faulted { s with host := rest } t) ∧
      (accessesWhileBusy rest = true → ∃ t, step s = .next t ∧ Kept {} { s with host := rest } t ∧
        t.running = some w ∧ t.status = s.status ∧ t.errcode = s.errcode ∧ t.errinfo = s.errinfo)) ∧
    (s.running = some w → accessesWhileBusy s.host = false → ∃ t, step s = .next t ∧ faulted s t)

/-- The step runs the decoded command: an idle machine whose host next writes to CMD a word that decodes to i runs i to
its end in that step, or has BUSY = 1 when an access of the host is to land while it runs; a machine in progress runs
the command in progress when no access lands (10_state R41). The clauses on accesses that land while the command runs are
the model's choice, log 1, and so is the PSEQ that `State.start` stores, log 7. -/
def Obligations.StepRunsTheDecodedCommand : Prop :=
  ∀ (s : State) (w : Word) (i : Instr), decode w = .ok i →
    (∀ (b : Bool) (rest : List HostEvent), s.running = none → s.host = ⟨b, .regWrite 0x010 w⟩ :: rest →
      (accessesWhileBusy rest = false → step s = exec i { s with host := rest }) ∧
      (accessesWhileBusy rest = true → step s = .next (State.start { s with host := rest } w))) ∧
    (s.running = some w → accessesWhileBusy s.host = false → step s = exec i s)

/-- Nothing stops the machine: every command answers a next state in every state, and so does every step
(60_exceptions R450, R452). -/
def Obligations.NoCommandAndNoStepStops : Prop :=
  (∀ (i : Instr) (s : State), ∃ t, exec i s = .next t) ∧ ∀ s : State, NeverStops s

/-- Every step keeps the control registers safe: reserved bits read 0, ERRCODE and ERRINFO are 0 while ERR is 0, PSEQ is
0 while no command runs, ACC = 1 only with VFAIL = 0, the XOF context is in one of its forms (10_state R42 to R50). One
clause of `ControlOk` is the model's choice and no rule's, `pseqBusy`: the stored PSEQ holds step 1 while a command runs
(log 7), with the OP of the word's opcode (log 22). -/
def Obligations.StepKeepsControlRegistersSafe : Prop :=
  ∀ s t : State, ControlOk s → step s = .next t → ControlOk t

/-- Every step keeps BUF safe: its form is canonical and no byte at or past BUF_BYTES is ever listed, so no command
writes outside its checked regions (20_memory R91). -/
def Obligations.StepKeepsBufferInsideItsBounds : Prop :=
  ∀ s t : State, BufferOk s → step s = .next t → BufferOk t

/-- The state after reset is safe. -/
def Obligations.ResetIsSafe : Prop := ControlOk State.reset ∧ BufferOk State.reset

/-! ### Faults, status and the host port -/

/-- A command that faults (it sets ERR) changes nothing but STATUS, ERRCODE, ERRINFO, BUSY and PSEQ, and the entropy
port's position for ERR_ENTROPY and ERR_BOUND (60_exceptions R452). -/
def Obligations.FaultHasNoOtherEffect : Prop :=
  ∀ (i : Instr) (s t : State), s.err = false → exec i s = .next t → t.err = true →
    Kept { entropy := true } s t ∧ t.errinfo = encode i ∧ t.done = true ∧ t.ovr = s.ovr ∧ t.running = none ∧ t.pseq = 0 ∧
    (t.errcode ≠ FaultCode.toWord .entropy → t.errcode ≠ FaultCode.toWord .bound →
      t.entropyIn = s.entropyIn ∧ t.entropyCount = s.entropyCount)

/-- While ERR is 1 a command still runs, and whatever it does ERR stays 1 and ERRCODE and ERRINFO keep the first fault
(60_exceptions R454). -/
def Obligations.FirstFaultIsKept : Prop :=
  ∀ (i : Instr) (s t : State), s.err = true → exec i s = .next t →
    t.err = true ∧ t.errcode = s.errcode ∧ t.errinfo = s.errinfo ∧ (t.running = none → t.done = true)

/-- Every command but NOP, MOVI and MOVHI faults with ERR_PARAM under an invalid parameter set; a decoded EXPZ with
P_MODE bit 0 = 0 faults with ERR_ILLEGAL before that (10_state R67; 30_encoding R143; 60_exceptions R453). -/
def Obligations.InvalidParametersFaultFirst : Prop :=
  ∀ (i : Instr) (s : State), s.params.valid = false → i.wellFormed = true →
    match i with
    | .nop | .movi _ _ | .movhi _ _ => ∃ t, exec i s = .next t ∧ Ended s t
    | .expz _ _ _ => FaultsWith i s (if s.params.mode.getLsbD 0 then .param else .illegal)
    | _ => FaultsWith i s .param

/-- A command that ends sets DONE and leaves BUSY = 0 and PSEQ = 0; one that has not ended leaves BUSY = 1 with its own
word in progress and no register, flag or byte changed (10_state R41, R42; 43_xof R267). -/
def Obligations.CommandEndsOrStaysBusy : Prop :=
  ∀ (i : Instr) (s t : State), exec i s = .next t →
    (t.running = none ∧ t.done = true ∧ t.pseq = 0) ∨
    (t.running = some (encode i) ∧ t.status = s.status ∧ t.attempts = 2 * s.attempts + 1 ∧
      Kept {} s { t with attempts := s.attempts })

/-- The host's write to STATUS clears exactly the bits among DONE, ERR and OVR it writes 1 to; clearing ERR clears
ERRCODE and ERRINFO, and nothing else changes; it is honoured while a command runs (10_state R45; 60_exceptions R455). -/
def Obligations.StatusWriteClearsWrittenBits : Prop :=
  ∀ (s : State) (v : Word), ∃ t, s.access (.regWrite 0x004 v) = t ∧
    t.done = (s.done && !v.getLsbD 1) ∧ t.err = (s.err && !v.getLsbD 2) ∧ t.ovr = (s.ovr && !v.getLsbD 3) ∧
    t.running = s.running ∧ t.pseq = s.pseq ∧
    (v.getLsbD 2 = true → t.errcode = 0 ∧ t.errinfo = 0) ∧
    (v.getLsbD 2 = false → t.errcode = s.errcode ∧ t.errinfo = s.errinfo) ∧ Kept {} s t

/-- CTRL keeps IE and EIE as written, reads 0 in every other bit, and a write with SRST = 0 changes nothing else, at any
time; the interrupt line is the level `(DONE and IE) or (ERR and EIE)`: it is deasserted by clearing the status bits or
the enables (10_state R44, 60_exceptions R456). -/
def Obligations.EnablesAndTheInterruptLine : Prop :=
  ∀ (s : State) (v : Word),
    (v.getLsbD 0 = false → ∃ t, s.access (.regWrite 0x000 v) = t ∧
      (∀ k, t.ctrl.getLsbD k = (v.getLsbD k && (k == 1 || k == 2))) ∧ t.regRead 0x000 = t.ctrl ∧
      t = { s with ctrl := t.ctrl } ∧
      (t.irq = true ↔ (s.status.getLsbD 1 = true ∧ v.getLsbD 1 = true) ∨
        (s.status.getLsbD 2 = true ∧ v.getLsbD 2 = true))) ∧
    (s.access (.regWrite 0x004 0x6)).irq = false ∧ (s.access (.regWrite 0x000 0)).irq = false

/-- While a command runs a write of CMD, of a general register, of a parameter register or of BUF is dropped and sets OVR,
and nothing else changes; a write at an unlisted or unaligned offset, or outside BUF, has no effect at all (20_memory R90,
R104; 10_state R48, R77). That a write of a read-only register does not set OVR is the model's choice, log 8; that a run
partly outside BUF counts as outside is log 19. -/
def Obligations.WritesWhileBusyAreDropped : Prop :=
  ∀ s : State, s.busy = true →
    (∀ (off : Nat) (v : Word), off % 4 = 0 → (off = 0x010 ∨ (0x040 ≤ off ∧ off < 0x0BC)) →
      hostStep (.regWrite off v) s = .next s.setOvr) ∧
    (∀ (off : Nat) (v : Word),
      (off % 4 ≠ 0 ∨ (off ≠ 0x000 ∧ off ≠ 0x004 ∧ off ≠ 0x010 ∧ ¬(0x040 ≤ off ∧ off < 0x0BC))) →
      hostStep (.regWrite off v) s = .next s) ∧
    (∀ (addr : Nat) (bs : Bytes), 1 ≤ bs.length →
      hostStep (.bufWrite addr bs) s = .next (if addr + bs.length ≤ s.bufBytes then s.setOvr else s)) ∧
    s.setOvr.ovr = true ∧ s.setOvr.done = s.done ∧ s.setOvr.err = s.err ∧
    s.setOvr = { s with status := s.setOvr.status }

/-- A general register or a parameter register written while no command runs reads back as written, all 32 bits; every
other register of REG reads as before, the derived sizes apart when a parameter was written. An idle write of a read-only
register or at an unlisted or unaligned offset is ignored; CMD, unlisted and unaligned offsets read 0. D_PKB, D_SKB and
D_SIGB read the sizes of the parameter set, each 0 when the set is invalid
(00_scope R12; 10_state R33, R48, R51, R68, R77; 20_memory R90). -/
def Obligations.RegistersReadBackAsWritten : Prop :=
  (∀ (s : State) (off : Nat) (v : Word), s.busy = false → off % 4 = 0 →
    ((0x040 ≤ off ∧ off < 0x080) ∨ (0x080 ≤ off ∧ off < 0x0BC)) →
    ∃ t, s.access (.regWrite off v) = t ∧ t.regRead off = v ∧
      (∀ o, o ≠ off → (o < 0x0C0 ∨ off < 0x080) → t.regRead o = s.regRead o) ∧ (∀ a, t.byteAt a = s.byteAt a)) ∧
  (∀ (s : State) (off : Nat) (v : Word), s.busy = false →
    (off % 4 ≠ 0 ∨ (off ≠ 0x000 ∧ off ≠ 0x004 ∧ off ≠ 0x010 ∧ ¬(0x040 ≤ off ∧ off < 0x0BC))) →
    hostStep (.regWrite off v) s = .next s) ∧
  (∀ (s : State) (off : Nat),
    (off % 4 ≠ 0 ∨ off = 0x010 ∨ (0x024 ≤ off ∧ off < 0x040) ∨ off = 0x0BC ∨ 0x0CC ≤ off) → s.regRead off = 0) ∧
  ∀ (s : State) (w : Nat), IsWidth s.params.Q w →
    let p := s.params
    let pkq := fun n => (n * w + 7) / 8
    (p.valid = true → (s.regRead 0x0C0).toNat = p.seedBytes + pkq (p.N - p.K) ∧
      (s.regRead 0x0C4).toNat = p.seedBytes ∧
      (s.regRead 0x0C8).toNat = p.saltBytes + 2 * p.digestBytes + p.stMax * p.seedBytes + p.mtMax * p.digestBytes +
        (p.T - p.W) * (pkq p.N + pkq (if p.variant then p.M else p.N) + p.digestBytes)) ∧
    (p.valid = false → s.regRead 0x0C0 = 0 ∧ s.regRead 0x0C4 = 0 ∧ s.regRead 0x0C8 = 0)

/-- While no command runs, the host reads back the bytes it wrote to BUF and every other byte is unchanged; an access
outside BUF has no effect and reads zeros (20_memory R90, R95). That a run which lies only partly inside BUF is treated as
one outside it, whole, is the model's choice, log 19. -/
def Obligations.HostReadsBackBufBytes : Prop :=
  ∀ (s : State) (addr : Nat) (bs : Bytes), s.busy = false → Memory.wf s.buf → 1 ≤ bs.length →
    ∃ t, s.access (.bufWrite addr bs) = t ∧
      (addr + bs.length ≤ s.bufBytes → t.bufRead addr bs.length = bs ∧ Kept { regions := [(addr, bs.length)] } s t) ∧
      (s.bufBytes < addr + bs.length → t = s ∧ t.bufRead addr bs.length = List.replicate bs.length 0)

/-- A host read of PSEQ while a protocol command runs shows that command and one of its steps, whatever the free value
is; otherwise it shows 0 (10_state R42; 47_protocol R399). The premise ControlOk fixes the stored PSEQ (log 7); that an
illegal word in progress shows the command of its opcode is the model's choice, log 22. -/
def Obligations.PseqShowsTheRunningProtocolCommand : Prop :=
  ∀ s : State, ControlOk s →
    (s.running = none → s.regRead 0x01C = 0) ∧
    (∀ w, s.running = some w → pseqOp w = 0 → s.regRead 0x01C = 0) ∧
    (∀ w, s.running = some w → pseqOp w ≠ 0 → ∃ k, 1 ≤ k ∧ k ≤ (if pseqOp w = 1 then 4 else 7) ∧
      (s.regRead 0x01C).toNat = pseqOp w + 16 * k)

/-! ### System and move commands -/

/-- NOP, MOVI and MOVHI: their words, and their whole effect under any parameter set (40_system R170 to R172). -/
def Obligations.NopAndMoves : Prop :=
  ∀ (s : State) (a : Reg) (imm : Imm16),
    (WordOf 0x00 0xFFFFFF#32 .nop 0 ∧ Follows .nop s [] {} (fun _ => True)) ∧
    (WordOf 0x01 0x0F0000#32 (.movi a imm) (wordI 0x01 a imm) ∧
      Follows (.movi a imm) s [] { regs := [a] } (fun t => t.val a = imm.toNat)) ∧
    (WordOf 0x02 0x0F0000#32 (.movhi a imm) (wordI 0x02 a imm) ∧
      Follows (.movhi a imm) s [] { regs := [a] } (fun t => t.val a = imm.toNat * 2 ^ 16 + s.val a % 2 ^ 16))

/-! ### Scalar arithmetic -/

/-- FQADD, FQSUB and FQMUL on canonical operands, and their faults (41_scalar R183 to R185). -/
def Obligations.ScalarSumDifferenceProductModQ : Prop :=
  ScalarBinaryRule 0x10 .fqadd Params.Q (fun q x y => (x + y) % q) ∧
  ScalarBinaryRule 0x11 .fqsub Params.Q (fun q x y => if y ≤ x then x - y else x + q - y) ∧
  ScalarBinaryRule 0x12 .fqmul Params.Q (fun q x y => x * y % q)

/-- FZADD, FZSUB and FZMUL on canonical operands, and their faults; adding exponents multiplies the embedded elements
(41_scalar R193 to R195). -/
def Obligations.ScalarSumDifferenceProductModZ : Prop :=
  ScalarBinaryRule 0x18 .fzadd Params.Z (fun z x y => (x + y) % z) ∧
  ScalarBinaryRule 0x19 .fzsub Params.Z (fun z x y => if y ≤ x then x - y else x + z - y) ∧
  ScalarBinaryRule 0x1A .fzmul Params.Z (fun z x y => x * y % z) ∧
  ∀ p : Params, p.valid = true → ∀ x < p.Z, ∀ y < p.Z, p.emb ((x + y) % p.Z) = p.emb x * p.emb y % p.Q

/-- FQNORM and FZNORM: on `[0, 2m)` the result is the value modulo m (41_scalar R186, R196). -/
def Obligations.ScalarCanonicalisation : Prop :=
  ScalarUnaryRule 0x13 .fqnorm (fun p => 2 * p.Q) (fun p v => v % p.Q) ∧
  ScalarUnaryRule 0x1B .fznorm (fun p => 2 * p.Z) (fun p v => v % p.Z)

/-- FQINV and FZINV: the unique inverse, ERR_DOMAIN exactly for the operands below the modulus that are no units
(41_scalar R188, R197). -/
def Obligations.ScalarInverses : Prop := InverseRule 0x14 .fqinv Params.Q ∧ InverseRule 0x1C .fzinv Params.Z

/-- R2F gives `g^e mod Q`, and its Z results are pairwise distinct and never 0 (41_scalar R189). -/
def Obligations.RestrictedToField : Prop :=
  ScalarUnaryRule 0x15 .r2f Params.Z (fun p e => p.G ^ e % p.Q) ∧
  ∀ p : Params, p.valid = true → ∀ e < p.Z, p.G ^ e % p.Q ≠ 0 ∧
    ∀ e' < p.Z, p.G ^ e % p.Q = p.G ^ e' % p.Q → e = e'

/-- INGRP answers 1 exactly for the powers of g, F2R the exponent of a power and 0 for any other value; both write GRP
and no other flag, and neither faults on its operand (41_scalar R190, R191). -/
def Obligations.MembershipAndDiscreteLogarithm : Prop :=
  ∀ (s : State) (a b : Reg),
    (WordOf 0x16 0x00FFFF#32 (.ingrp a b) (wordR 0x16 a b 0 0 0 0) ∧
      Follows (.ingrp a b) s [(.param, s.params.valid = true)] { regs := [a], flags := [1] } (fun t =>
        (t.val a = 1 ∨ t.val a = 0) ∧ (t.val a = 1 ↔ ∃ e < s.params.Z, s.params.G ^ e % s.params.Q = s.val b) ∧
        (t.grp = true ↔ t.val a = 1))) ∧
    (WordOf 0x17 0x00FFFF#32 (.f2r a b) (wordR 0x17 a b 0 0 0 0) ∧
      Follows (.f2r a b) s [(.param, s.params.valid = true)] { regs := [a], flags := [1] } (fun t =>
        (∀ e < s.params.Z, s.params.G ^ e % s.params.Q = s.val b → t.val a = e ∧ t.grp = true) ∧
        ((¬∃ e < s.params.Z, s.params.G ^ e % s.params.Q = s.val b) → t.val a = 0 ∧ t.grp = false)))

/-- F2R undoes R2F, R2F undoes F2R on the members, and adding exponents multiplies embedded elements
(41_scalar R189, R191, R193). -/
def Obligations.ExponentMapIsAnIsomorphism : Prop :=
  ∀ p : Params, p.valid = true →
    (∀ e < p.Z, p.dlog (p.emb e) = e ∧ p.inG (p.emb e) = true) ∧
    (∀ v, p.inG v = true → p.emb (p.dlog v) = v ∧ p.dlog v < p.Z) ∧
    (∀ a < p.Z, ∀ b < p.Z, p.emb (addMod p.Z a b) = mulMod p.Q (p.emb a) (p.emb b))

/-! ### Vectors and matrices -/

/-- VQADD, VQSUB, VQMUL and VZSUB, lane by lane (42_vector R211 to R213, R216). -/
def Obligations.PointwiseSumDifferenceProduct : Prop :=
  VectorBinaryRule 0x20 .vqadd Params.Q (fun q x y => (x + y) % q) ∧
  VectorBinaryRule 0x21 .vqsub Params.Q (fun q x y => if y ≤ x then x - y else x + q - y) ∧
  VectorBinaryRule 0x22 .vqmul Params.Q (fun q x y => x * y % q) ∧
  VectorBinaryRule 0x28 .vzsub Params.Z (fun z x y => if y ≤ x then x - y else x + z - y)

/-- VQNORM, VZNORM and VR2F, lane by lane (42_vector R214, R217, R218). -/
def Obligations.PointwiseCanonicalisationAndEmbedding : Prop :=
  VectorUnaryRule 0x23 .vqnorm (fun p => 2 * p.Q) (fun p v => if p.Q ≤ v then v - p.Q else v) ∧
  VectorUnaryRule 0x29 .vznorm (fun p => 2 * p.Z) (fun p v => if p.Z ≤ v then v - p.Z else v) ∧
  VectorUnaryRule 0x25 .vr2f Params.Z (fun p e => p.G ^ e % p.Q)

/-- VQSCA: `r[j] = (a[j] + β·b[j]) mod Q`, and its faults (42_vector R215). -/
def Obligations.ScaledCombination : Prop :=
  ∀ (s : State) (a b c d e : Reg), Memory.wf s.buf →
    WordOf 0x24 0x00000F#32 (.vqsca a b c d e) (wordR 0x24 a b c d e 0) ∧
    Follows (.vqsca a b c d e) s
      [(.param, s.params.valid = true),
        (.addr, Fits s [(s.val a, 2 * s.val d), (s.val b, 2 * s.val d), (s.val c, 2 * s.val d)]),
        (.range, s.val e < s.params.Q ∧ ElemsBelow s (s.val b) (s.val d) s.params.Q ∧
          ElemsBelow s (s.val c) (s.val d) s.params.Q)]
      { regions := [(s.val a, 2 * s.val d)] }
      (fun t => ∀ j < s.val d, Memory.elem t.buf (s.val a) j =
        (Memory.elem s.buf (s.val b) j + s.val e * Memory.elem s.buf (s.val c) j) % s.params.Q)

/-- VINGRP and VF2R: membership of every lane in x[A] or in the lanes written, the conjunction in GRP
(42_vector R219, R222). -/
def Obligations.VectorMembershipAndLogarithms : Prop :=
  ∀ (s : State) (a b d : Reg), Memory.wf s.buf →
    (WordOf 0x26 0x00F0FF#32 (.vingrp a b d) (wordR 0x26 a b 0 d 0 0) ∧
      Follows (.vingrp a b d) s
        [(.param, s.params.valid = true), (.addr, Fits s [(s.val b, 2 * s.val d)])] { regs := [a], flags := [1] }
        (fun t => (t.grp = true ↔ ∀ j < s.val d, s.params.inG (Memory.elem s.buf (s.val b) j) = true) ∧
          t.val a = (if t.grp then 1 else 0))) ∧
    (WordOf 0x27 0x00F0FF#32 (.vf2r a b d) (wordR 0x27 a b 0 d 0 0) ∧
      Follows (.vf2r a b d) s
        [(.param, s.params.valid = true), (.addr, Fits s [(s.val a, 2 * s.val d), (s.val b, 2 * s.val d)])]
        { regions := [(s.val a, 2 * s.val d)], flags := [1] }
        (fun t => (t.grp = true ↔ ∀ j < s.val d, s.params.inG (Memory.elem s.buf (s.val b) j) = true) ∧
          ∀ j < s.val d, Memory.elem t.buf (s.val a) j = s.params.dlog (Memory.elem s.buf (s.val b) j)))

/-- SYNQ and SYNR: the product of the vector (embedded, for SYNR) with the K rows of V_tr followed by the identity; the
syndrome map is linear, `syn(u + β·v) = syn(u) + β·syn(v)` (42_vector R221, R223, R224). -/
def Obligations.Syndromes : Prop :=
  ∀ (s : State) (a b c : Reg), Memory.wf s.buf →
    let p := s.params
    let V := fun i j => Memory.elem s.buf (s.val c) (i * (p.N - p.K) + j)
    let regions : List Region :=
      [(s.val a, 2 * (p.N - p.K)), (s.val b, 2 * p.N), (s.val c, 2 * (p.K * (p.N - p.K)))]
    (WordOf 0x2A 0x000FFF#32 (.synq a b c) (wordR 0x2A a b c 0 0 0) ∧
      Follows (.synq a b c) s
        [(.param, p.valid = true), (.addr, Fits s regions),
          (.range, ElemsBelow s (s.val b) p.N p.Q ∧ ElemsBelow s (s.val c) (p.K * (p.N - p.K)) p.Q)]
        { regions := [(s.val a, 2 * (p.N - p.K))] }
        (fun t => ∀ j < p.N - p.K, Memory.elem t.buf (s.val a) j =
          (Memory.elem s.buf (s.val b) (p.K + j) +
            ∑ i ∈ Finset.range p.K, Memory.elem s.buf (s.val b) i * V i j) % p.Q)) ∧
    (WordOf 0x2B 0x000FFF#32 (.synr a b c) (wordR 0x2B a b c 0 0 0) ∧
      Follows (.synr a b c) s
        [(.param, p.valid = true), (.addr, Fits s regions),
          (.range, ElemsBelow s (s.val b) p.N p.Z ∧ ElemsBelow s (s.val c) (p.K * (p.N - p.K)) p.Q)]
        { regions := [(s.val a, 2 * (p.N - p.K))] }
        (fun t => ∀ j < p.N - p.K, Memory.elem t.buf (s.val a) j =
          (p.G ^ Memory.elem s.buf (s.val b) (p.K + j) +
            ∑ i ∈ Finset.range p.K, p.G ^ Memory.elem s.buf (s.val b) i * V i j) % p.Q)) ∧
    ∀ (M u v : List Nat) (beta : Nat), p.valid = true → u.length = p.N → v.length = p.N →
      p.syn M (scaVec p.Q beta u v) = scaVec p.Q beta (p.syn M u) (p.syn M v)

/-- EXPZ: η times W_mat modulo Z, then η; an illegal word in the RSDP variant; it respects subtraction,
`EXPZ(u - v) = EXPZ(u) - EXPZ(v)` (42_vector R221, R225; 30_encoding R143). -/
def Obligations.ExpansionThroughWmat : Prop :=
  ∀ (s : State) (a b c : Reg), Memory.wf s.buf →
    let p := s.params
    WordOf 0x2C 0x000FFF#32 (.expz a b c) (wordR 0x2C a b c 0 0 0) ∧
    Follows (.expz a b c) s
      [(.illegal, p.mode.getLsbD 0 = true), (.param, p.valid = true),
        (.addr, Fits s [(s.val a, 2 * p.N), (s.val b, 2 * p.M), (s.val c, 2 * (p.M * (p.N - p.M)))]),
        (.range, ElemsBelow s (s.val b) p.M p.Z ∧ ElemsBelow s (s.val c) (p.M * (p.N - p.M)) p.Z)]
      { regions := [(s.val a, 2 * p.N)] }
      (fun t =>
        (∀ j < p.N - p.M, Memory.elem t.buf (s.val a) j =
          (∑ i ∈ Finset.range p.M, Memory.elem s.buf (s.val b) i *
            Memory.elem s.buf (s.val c) (i * (p.N - p.M) + j)) % p.Z) ∧
        ∀ i < p.M, Memory.elem t.buf (s.val a) (p.N - p.M + i) = Memory.elem s.buf (s.val b) i) ∧
    ∀ M u v : List Nat, p.valid = true → u.length = p.M → v.length = p.M → allBelow p.Z u = true →
      allBelow p.Z v = true → p.expz M (subVec p.Z u v) = subVec p.Z (p.expz M u) (p.expz M v)

/-! ### XOF context, hash, sampler, fixed-weight expansion -/

/-- XINIT, XABS, XABSI and XFIN: the session's phases and input, and ERR_XOFSEQ in the wrong phase
(43_xof R252 to R255, R259). -/
def Obligations.XofSessionCommands : Prop :=
  ∀ (s : State) (b c : Reg) (imm : Imm16),
    (WordOf 0x30 0xFFFFFF#32 .xinit 0x30000000#32 ∧
      Follows .xinit s [(.param, s.params.valid = true)] { xof := true }
        (fun t => t.xph = .absorb ∧ t.xin = [] ∧ t.xpos = 0)) ∧
    (WordOf 0x31 0xF00FFF#32 (.xabs b c) (wordR 0x31 0 b c 0 0 0) ∧
      Follows (.xabs b c) s
        [(.param, s.params.valid = true), (.xofseq, s.xph = .absorb), (.addr, Fits s [(s.val b, s.val c)])]
        { xof := true }
        (fun t => t.xph = .absorb ∧ t.xpos = s.xpos ∧ ∃ bs, t.xin = s.xin ++ bs ∧ bs.length = s.val c ∧
          Holds s (s.val b) bs)) ∧
    (WordOf 0x32 0xFF0000#32 (.xabsi imm) (wordI 0x32 0 imm) ∧
      Follows (.xabsi imm) s [(.param, s.params.valid = true), (.xofseq, s.xph = .absorb)] { xof := true }
        (fun t => t.xph = .absorb ∧ t.xpos = s.xpos ∧
          t.xin = s.xin ++ [imm.extractLsb' 0 8, imm.extractLsb' 8 8])) ∧
    (WordOf 0x33 0xFFFFFF#32 .xfin 0x33000000#32 ∧
      Follows .xfin s [(.param, s.params.valid = true), (.xofseq, s.xph = .absorb)] { xof := true }
        (fun t => t.xph = .squeeze ∧ t.xpos = 0 ∧ t.xin = s.xin))

/-- XSQZ writes the next n stream bytes of the session and moves XPOS past them; HASH writes the first DIGEST_BYTES
stream bytes of its input and resets the context (43_xof R256 to R258). -/
def Obligations.SqueezeAndHash : Prop :=
  ∀ (s : State) (a b c : Reg), Memory.wf s.buf →
    (WordOf 0x34 0x00FFFF#32 (.xsqz a b) (wordR 0x34 a b 0 0 0 0) ∧
      Follows (.xsqz a b) s
        [(.param, s.params.valid = true), (.xofseq, s.xph = .squeeze), (.addr, Fits s [(s.val a, s.val b)])]
        { regions := [(s.val a, s.val b)], xof := true }
        (fun t => (∀ j < s.val b, t.byteAt (s.val a + j) = s.xofStream s.params.level s.xin (s.xpos + j)) ∧
          t.xpos = s.xpos + s.val b ∧ t.xph = .squeeze ∧ t.xin = s.xin)) ∧
    (WordOf 0x35 0x000FFF#32 (.hash a b c) (wordR 0x35 a b c 0 0 0) ∧
      Follows (.hash a b c) s
        [(.param, s.params.valid = true), (.addr, Fits s [(s.val a, s.params.digestBytes), (s.val b, s.val c)])]
        { regions := [(s.val a, s.params.digestBytes)], xof := true }
        (fun t => ContextReset t ∧ ∀ j < s.params.digestBytes,
          t.byteAt (s.val a + j) = s.xofStream s.params.level (s.readBytes (s.val b) (s.val c)) j))

/-- HASH leaves BUF as the sequence XINIT, XABS, XFIN, XSQZ of DIGEST_BYTES bytes does; only the final state of the
context differs (43_xof R257). -/
def Obligations.HashEqualsTheFourCommandSession : Prop :=
  ∀ (s : State) (a b c d : Reg), s.params.valid = true →
    Fits s [(s.val a, s.params.digestBytes), (s.val b, s.val c)] → s.val d = s.params.digestBytes →
    ∃ t u v w y, exec (.hash a b c) s = .next t ∧ exec .xinit s = .next u ∧ exec (.xabs b c) u = .next v ∧
      exec .xfin v = .next w ∧ exec (.xsqz a d) w = .next y ∧ t.buf = y.buf ∧ t.x = y.x ∧ t.status = y.status ∧
      ContextReset t ∧ y.xph = .squeeze ∧ y.xpos = s.params.digestBytes

/-- SMPQ, SMPQS and SMPZ: the values of the draws in turn with one shared shift register, and XPOS past the last chunk
fetched; while a draw has not ended BUSY stays 1 (43_xof R261 to R264, R267). How many windows one step of the model
examines is log 5: the result does not depend on it. -/
def Obligations.SamplingCommands : Prop :=
  SampleRule 0x36 .smpq Params.Q 0 ∧ SampleRule 0x37 .smpqs (fun p => p.Q - 1) 1 ∧ SampleRule 0x38 .smpz Params.Z 0

/-- A sampling call gives n values in `[off, m + off)`, fetches a multiple of four stream bytes, is the same however
many windows a draw may examine once the draws end, and ends for some number of windows exactly when every draw ends
(43_xof R260, R261, R267; log 5). -/
def Obligations.SampledValuesAreInRange : Prop :=
  ∀ (S : Nat → Byte) (m n off p : Nat),
    (∀ (tries q : Nat) (vs : List Nat), sample S tries m n off p = some (vs, q) →
      vs.length = n ∧ (∀ v ∈ vs, off ≤ v ∧ v < m + off) ∧ (∃ k, q = p + 4 * k) ∧
      ∀ more, tries ≤ more → sample S more m n off p = some (vs, q)) ∧
    ∀ vs q, (∃ tries, sample S tries m n off p = some (vs, q)) ↔
      ∃ rs f, DrawsAll S (List.replicate n m) (Sampler.fresh p) rs f ∧ vs = rs.map (· + off) ∧ q = f.pos

/-- The shift register never overflows: after a refill NB is between 32 and 64, SR holds no bit at or above NB, and
refilling adds the chunk above the valid bits (43_xof R260). -/
def Obligations.ShiftRegisterNeverOverflows : Prop :=
  ∀ (S : Nat → Byte) (d : Sampler), d.nb ≤ 64 → d.sr.toNat < 2 ^ d.nb →
    32 ≤ (d.refill S).nb ∧ (d.refill S).nb ≤ 64 ∧ (d.refill S).sr.toNat < 2 ^ (d.refill S).nb ∧
    (d.nb ≤ 32 → (d.refill S).pos = d.pos + 4 ∧ (d.refill S).sr.toNat = d.sr.toNat +
      2 ^ d.nb * ∑ k ∈ Finset.range 4, 2 ^ (8 * k) * (S (d.pos + k)).toNat) ∧
    ∀ b ≤ 16, ((d.refill S).drop b).sr.toNat < 2 ^ ((d.refill S).drop b).nb ∧
      ((d.refill S).drop b).sr.toNat = (d.refill S).sr.toNat / 2 ^ b

/-- FWEXP: the bitmap of the shuffle of W ones and T - W zeros by the draws below T, T - 1, .., 2 of the digest's own
stream; it always has T entries and exactly W ones (43_xof R266, R268). -/
def Obligations.FixedWeightExpansion : Prop :=
  (∀ (s : State) (a b : Reg), Memory.wf s.buf →
    let p := s.params
    WordOf 0x39 0x00FFFF#32 (.fwexp a b) (wordR 0x39 a b 0 0 0 0) ∧
    (p.valid ≠ true → FaultsWith (.fwexp a b) s .param) ∧
    (p.valid = true → ¬Fits s [(s.val a, p.T), (s.val b, p.digestBytes)] → FaultsWith (.fwexp a b) s .addr) ∧
    (p.valid = true → Fits s [(s.val a, p.T), (s.val b, p.digestBytes)] →
      ∀ rs f, DrawsAll (s.xof (s.readBytes (s.val b) p.digestBytes ++ le16 (3 * p.T - 1)))
          ((List.range (p.T - 1)).map fun pos => p.T - pos) (Sampler.fresh 0) rs f →
        ∃ least, ∀ k, least ≤ k →
          Completes (.fwexp a b) { s with attempts := k } { regions := [(s.val a, p.T)], xof := true } (fun t =>
            ContextReset t ∧ Holds t (s.val a)
              (bitmapBytes (shuffle (List.replicate p.W true ++ List.replicate (p.T - p.W) false) 0 rs))))) ∧
  ∀ (S : Nat → Byte) (tries T W : Nat) (b : List Bool), W ≤ T → fixedWeight S tries T W = some b →
    b.length = T ∧ ones b = W

/-! ### Codec -/

/-- PACK and UNPACK bit by bit: stream bit `j·w + t` is bit t of value j, the padding is 0; UNPACK writes the values as
decoded and sets CAN exactly when they are below the modulus and the padding is 0 (44_codec R300 to R302). That a term
with sel above 1, which no word decodes to, faults with ERR_ILLEGAL is the model's choice, log 14. -/
def Obligations.PackAndUnpackBitByBit : Prop :=
  ∀ (s : State) (a b d : Reg) (sel : Sel) (w : Nat), Memory.wf s.buf →
    let m := if sel = 0 then s.params.Q else s.params.Z
    let n := s.val d
    let len := (n * w + 7) / 8
    IsWidth m w →
    (WordOf 0x40 0x00F0FE#32 (.pack a b d sel) (wordR 0x40 a b 0 d 0 sel) ∧
      Follows (.pack a b d sel) s
        [(.illegal, sel = 0 ∨ sel = 1), (.param, s.params.valid = true),
          (.addr, Fits s [(s.val a, len), (s.val b, 2 * n)]), (.range, ElemsBelow s (s.val b) n m)]
        { regions := [(s.val a, len)] }
        (fun t => (∀ j < n, ∀ k < w, streamBit t (s.val a) (j * w + k) = (Memory.elem s.buf (s.val b) j).testBit k) ∧
          ∀ k, n * w ≤ k → k < 8 * len → streamBit t (s.val a) k = false)) ∧
    (WordOf 0x41 0x00F0FE#32 (.unpack a b d sel) (wordR 0x41 a b 0 d 0 sel) ∧
      Follows (.unpack a b d sel) s
        [(.illegal, sel = 0 ∨ sel = 1), (.param, s.params.valid = true),
          (.addr, Fits s [(s.val a, 2 * n), (s.val b, len)])]
        { regions := [(s.val a, 2 * n)], flags := [2] }
        (fun t => (∀ j < n, Memory.elem t.buf (s.val a) j =
            ∑ k ∈ Finset.range w, if streamBit s (s.val b) (j * w + k) then 2 ^ k else 0) ∧
          (t.can = true ↔ (∀ j < n, Memory.elem t.buf (s.val a) j < m) ∧
            ∀ k, n * w ≤ k → k < 8 * len → streamBit s (s.val b) k = false)))

/-- Unpacking what was packed gives the values back with CAN = 1; packing what unpacks with CAN = 1 gives the bytes back
(44_codec R303). -/
def Obligations.CodecRoundTrips : Prop :=
  (∀ (m : Nat) (vs : List Nat), allBelow m vs = true →
    unpackVec (bits m) vs.length (packVec (bits m) vs) = vs ∧
      packedCanonical m vs.length (packVec (bits m) vs) = true) ∧
  (∀ (m n : Nat) (bs : Bytes), bs.length = packedBytes n (bits m) → packedCanonical m n bs = true →
    packVec (bits m) (unpackVec (bits m) n bs) = bs) ∧
  ∀ (s : State) (a b c d : Reg) (sel : Sel), Memory.wf s.buf → s.params.valid = true → (sel = 0 ∨ sel = 1) →
    Fits s [(s.val a, packedBytes (s.val d) (bits (s.params.selected sel))), (s.val b, 2 * s.val d),
      (s.val c, 2 * s.val d)] →
    ElemsBelow s (s.val b) (s.val d) (s.params.selected sel) →
    ∃ t u, exec (.pack a b d sel) s = .next t ∧ exec (.unpack c a d sel) t = .next u ∧ u.can = true ∧
      ∀ j < s.val d, Memory.elem u.buf (s.val c) j = Memory.elem s.buf (s.val b) j

/-! ### Seed tree -/

/-- STBUILD writes the T round seeds and STDISC the disclosed ones, zero-filled, with their number in x[E]; in tree mode
they are the seeds of the leaves and of the nodes of Dset, in flat mode those of the rounds
(45_seed_tree R321, R323, R324, R326, R327). -/
def Obligations.SeedTreeBuildAndDisclosure : Prop :=
  ∀ (s : State) (a b c d e : Reg), Memory.wf s.buf →
    let p := s.params
    let root := s.readBytes (s.val b) p.seedBytes
    let salt := s.readBytes (s.val c) p.saltBytes
    let bm := bitmapAt s (s.val d)
    let flatSeedOf := fun i => streamBytes (s.xof (root ++ salt ++ le16 i)) 0 p.seedBytes
    let count := if p.flat then ones bm else (dset bm).length
    (WordOf 0x50 0x000FFF#32 (.stbuild a b c) (wordR 0x50 a b c 0 0 0) ∧
      Follows (.stbuild a b c) s
        [(.param, p.valid = true),
          (.addr, Fits s [(s.val a, p.T * p.seedBytes), (s.val b, p.seedBytes), (s.val c, p.saltBytes)])]
        { regions := [(s.val a, p.T * p.seedBytes)], xof := true }
        (fun t => ContextReset t ∧
          (p.flat = false → ∀ seed : Nat → Bytes, IsSeedTree s.xof p root salt seed →
            ∀ i < p.T, Holds t (s.val a + i * p.seedBytes) (seed (p.T - 1 + i))) ∧
          (p.flat = true → ∀ i < p.T, Holds t (s.val a + i * p.seedBytes) (flatSeedOf i)))) ∧
    (WordOf 0x51 0x00000F#32 (.stdisc a b c d e) (wordR 0x51 a b c d e 0) ∧
      Follows (.stdisc a b c d e) s
        [(.param, p.valid = true),
          (.addr, Fits s [(s.val a, p.stMax * p.seedBytes), (s.val b, p.seedBytes), (s.val c, p.saltBytes),
            (s.val d, p.T)]),
          (.range, BitmapAt s (s.val d)), (.bound, count ≤ p.stMax)]
        { regs := [e], regions := [(s.val a, p.stMax * p.seedBytes)], xof := true }
        (fun t => ContextReset t ∧ t.val e = count ∧
          (p.flat = false → ∀ seed : Nat → Bytes, IsSeedTree s.xof p root salt seed →
            ∀ k < count, Holds t (s.val a + k * p.seedBytes) (seed ((dset bm).getD k 0))) ∧
          (p.flat = true →
            ∀ k < count, Holds t (s.val a + k * p.seedBytes) (flatSeedOf ((markedRounds bm).getD k 0))) ∧
          ∀ j, count * p.seedBytes ≤ j → j < p.stMax * p.seedBytes → t.byteAt (s.val a + j) = 0))

/-- STREB: STR tells whether the claimed count is the one the bitmap requires; if so every disclosed round gets the seed
expanded from the supplied ones and every other round zero bytes, else the destination keeps its bytes
(45_seed_tree R325, R326). -/
def Obligations.SeedTreeRebuild : Prop :=
  ∀ (s : State) (a b c d e : Reg), Memory.wf s.buf →
    let p := s.params
    let salt := s.readBytes (s.val c) p.saltBytes
    let bm := bitmapAt s (s.val d)
    let item := fun k => s.readBytes (s.val b + k * p.seedBytes) p.seedBytes
    let count := if p.flat then ones bm else (dset bm).length
    WordOf 0x52 0x00000F#32 (.streb a b c d e) (wordR 0x52 a b c d e 0) ∧
    Follows (.streb a b c d e) s
      [(.param, p.valid = true),
        (.addr, Fits s [(s.val a, p.T * p.seedBytes), (s.val b, p.stMax * p.seedBytes), (s.val c, p.saltBytes),
          (s.val d, p.T)]),
        (.range, BitmapAt s (s.val d))]
      { regions := [(s.val a, p.T * p.seedBytes)], flags := [3], xof := true }
      (fun t => ContextReset t ∧ (t.str = true ↔ s.val e = count ∧ count ≤ p.stMax) ∧
        (t.str = false → ∀ x, t.byteAt x = s.byteAt x) ∧
        (t.str = true → ∀ i < p.T,
          (bm.getD i false = false → Holds t (s.val a + i * p.seedBytes) (List.replicate p.seedBytes 0)) ∧
          (bm.getD i false = true → p.flat = false → ∀ (seed : Nat → Bytes) (full : Nat → Bool), IsFull bm full →
            (∀ k < count, seed ((dset bm).getD k 0) = item k) →
            (∀ n < p.T - 1, full n = true →
              seed (2 * n + 1) = streamBytes (s.xof (seed n ++ salt ++ le16 n)) 0 p.seedBytes ∧
              seed (2 * n + 2) = streamBytes (s.xof (seed n ++ salt ++ le16 n)) p.seedBytes p.seedBytes) →
            Holds t (s.val a + i * p.seedBytes) (seed (p.T - 1 + i))) ∧
          (p.flat = true → ∀ k < count, (markedRounds bm).getD k p.T = i →
            Holds t (s.val a + i * p.seedBytes) (item k))))

/-- The disclosure set holds, in ascending order, exactly the full nodes whose parent is not full, and no more nodes
than the bitmap has ones (45_seed_tree R322, R327). -/
def Obligations.DisclosureSetIsTheMaximalFullNodes : Prop :=
  ∀ (b : List Bool) (full : Nat → Bool), 1 ≤ b.length → IsFull b full →
    (∀ n, n ∈ dset b ↔ n < 2 * b.length - 1 ∧ full n = true ∧ (n = 0 ∨ full ((n - 1) / 2) = false)) ∧
    (dset b).Pairwise (· < ·) ∧ (dset b).length ≤ ones b

/-- The proof set holds, in ascending order, exactly the unknown nodes whose parent is known; it is the disclosure set and
has no more nodes than the bitmap has ones (46_merkle R351, R356). -/
def Obligations.ProofSetIsTheDisclosureSet : Prop :=
  ∀ (b : List Bool) (known : Nat → Bool), 1 ≤ b.length → IsKnown b known →
    (∀ n, n ∈ pset b ↔ n < 2 * b.length - 1 ∧ known n = false ∧ (n = 0 ∨ known ((n - 1) / 2) = true)) ∧
    (pset b).Pairwise (· < ·) ∧ pset b = dset b ∧ (pset b).length ≤ ones b

/-- Rebuilding from a disclosure gives every disclosed round the seed that building the tree gives it, in tree mode and
in flat mode: first of the derivations, for any XOF, then of the machine, STREB on the output of STDISC with the same
salt, bitmap and count beside STBUILD (45_seed_tree R328). The disclosure must not overwrite the salt and the bitmap. -/
def Obligations.RebuildRecoversDisclosedSeeds : Prop :=
  (∀ (X : Bytes → Nat → Byte) (p : Params) (root salt : Bytes) (b : List Bool), 2 ≤ p.T → b.length = p.T →
    root.length = p.seedBytes → coverCount p b ≤ p.stMax →
    ∀ i < p.T, b.getD i false = true →
      (rebuiltSeeds X p (disclosureField X p root salt b) salt b).getD i [] = (roundSeeds X p root salt).getD i []) ∧
  ∀ (s : State) (a b c d e r : Reg), Memory.wf s.buf → s.params.valid = true →
    let p := s.params
    let field : List Region := [(s.val a, p.stMax * p.seedBytes)]
    Fits s (field ++ [(s.val b, p.seedBytes), (s.val c, p.saltBytes), (s.val d, p.T), (s.val r, p.T * p.seedBytes)]) →
    BitmapAt s (s.val d) → coverCount p (bitmapAt s (s.val d)) ≤ p.stMax → e ∉ [a, c, d, r] →
    (∀ j < p.saltBytes, Outside field (s.val c + j)) → (∀ j < p.T, Outside field (s.val d + j)) →
    ∃ t u v, exec (.stdisc a b c d e) s = .next t ∧ exec (.streb r a c d e) t = .next u ∧
      exec (.stbuild r b c) s = .next v ∧ u.str = true ∧ ∀ i < p.T, (bitmapAt s (s.val d)).getD i false = true →
        ∀ j < p.seedBytes, u.byteAt (s.val r + i * p.seedBytes + j) = v.byteAt (s.val r + i * p.seedBytes + j)

/-! ### Merkle tree -/

/-- MTROOT writes the root of the T leaf digests; MTPROOF writes the digests of the nodes of Pset, zero-filled, and their
number to x[E]; in flat mode the root of the four blocks and the leaves of the marked rounds
(46_merkle R350, R352, R353, R355, R357). -/
def Obligations.MerkleRootAndProof : Prop :=
  ∀ (s : State) (a b d e : Reg), Memory.wf s.buf →
    let p := s.params
    let leaf := fun i => s.readBytes (s.val b + i * p.digestBytes) p.digestBytes
    let bm := bitmapAt s (s.val d)
    let count := if p.flat then ones bm else (pset bm).length
    (WordOf 0x58 0x00FFFF#32 (.mtroot a b) (wordR 0x58 a b 0 0 0 0) ∧
      Follows (.mtroot a b) s
        [(.param, p.valid = true), (.addr, Fits s [(s.val a, p.digestBytes), (s.val b, p.T * p.digestBytes)])]
        { regions := [(s.val a, p.digestBytes)], xof := true }
        (fun t => ContextReset t ∧
          (p.flat = false → ∀ node : Nat → Bytes, IsMerkleTree s.xof p leaf node → Holds t (s.val a) (node 0)) ∧
          (p.flat = true → Holds t (s.val a) (flatRootOf s.xof p leaf)))) ∧
    (WordOf 0x59 0x00F00F#32 (.mtproof a b d e) (wordR 0x59 a b 0 d e 0) ∧
      Follows (.mtproof a b d e) s
        [(.param, p.valid = true),
          (.addr, Fits s [(s.val a, p.mtMax * p.digestBytes), (s.val b, p.T * p.digestBytes), (s.val d, p.T)]),
          (.range, BitmapAt s (s.val d)), (.bound, count ≤ p.mtMax)]
        { regs := [e], regions := [(s.val a, p.mtMax * p.digestBytes)], xof := true }
        (fun t => ContextReset t ∧ t.val e = count ∧
          (p.flat = false → ∀ node : Nat → Bytes, IsMerkleTree s.xof p leaf node →
            ∀ k < count, Holds t (s.val a + k * p.digestBytes) (node ((pset bm).getD k 0))) ∧
          (p.flat = true →
            ∀ k < count, Holds t (s.val a + k * p.digestBytes) (leaf ((markedRounds bm).getD k 0))) ∧
          ∀ j, count * p.digestBytes ≤ j → j < p.mtMax * p.digestBytes → t.byteAt (s.val a + j) = 0))

/-- MTRECOMP: STR tells whether the claimed count is the one the bitmap requires; if so the destination gets the root
computed from the known slots and the proof, else it keeps its bytes (46_merkle R354, R355). -/
def Obligations.MerkleRootRecomputation : Prop :=
  ∀ (s : State) (a b c d e : Reg), Memory.wf s.buf →
    let p := s.params
    let slot := fun i => s.readBytes (s.val b + i * p.digestBytes) p.digestBytes
    let item := fun k => s.readBytes (s.val c + k * p.digestBytes) p.digestBytes
    let bm := bitmapAt s (s.val d)
    let count := if p.flat then ones bm else (pset bm).length
    WordOf 0x5A 0x00000F#32 (.mtrecomp a b c d e) (wordR 0x5A a b c d e 0) ∧
    Follows (.mtrecomp a b c d e) s
      [(.param, p.valid = true),
        (.addr, Fits s [(s.val a, p.digestBytes), (s.val b, p.T * p.digestBytes), (s.val c, p.mtMax * p.digestBytes),
          (s.val d, p.T)]),
        (.range, BitmapAt s (s.val d))]
      { regions := [(s.val a, p.digestBytes)], flags := [3], xof := true }
      (fun t => ContextReset t ∧ (t.str = true ↔ s.val e = count ∧ count ≤ p.mtMax) ∧
        (t.str = false → ∀ x, t.byteAt x = s.byteAt x) ∧
        (t.str = true → p.flat = false → ∀ (node : Nat → Bytes) (known : Nat → Bool), IsKnown bm known →
          (∀ i < p.T, bm.getD i false = false → node (p.T - 1 + i) = slot i) →
          (∀ k < count, node ((pset bm).getD k 0) = item k) →
          (∀ n < p.T - 1, known n = true → node n = hashOf s.xof p (node (2 * n + 1) ++ node (2 * n + 2))) →
          Holds t (s.val a) (node 0)) ∧
        (t.str = true → p.flat = true → ∀ leaf : Nat → Bytes,
          (∀ i < p.T, bm.getD i false = false → leaf i = slot i) →
          (∀ k < count, leaf ((markedRounds bm).getD k 0) = item k) →
          Holds t (s.val a) (flatRootOf s.xof p leaf)))

/-- The root recomputed from the known leaves and the proof is the root of all the leaves, in tree mode and in flat mode:
first of the computations, for any XOF, then of the machine, MTRECOMP on the output of MTPROOF with the same bitmap and
count beside MTROOT (46_merkle R358). The proof must not overwrite the known leaves and the bitmap. -/
def Obligations.RecomputedRootIsTheRoot : Prop :=
  (∀ (X : Bytes → Nat → Byte) (p : Params) (leaves slots : List Bytes) (b : List Bool), 2 ≤ p.T → b.length = p.T →
    leaves.length = p.T → (∀ l ∈ leaves, l.length = p.digestBytes) → proofCount p b ≤ p.mtMax →
    (∀ i < p.T, b.getD i false = false → slots.getD i [] = leaves.getD i []) →
    recomputedRoot X p slots (proofField X p leaves b) b = merkleRoot X p leaves) ∧
  ∀ (s : State) (a b d e r : Reg), Memory.wf s.buf → s.params.valid = true →
    let p := s.params
    let field : List Region := [(s.val a, p.mtMax * p.digestBytes)]
    let bm := bitmapAt s (s.val d)
    Fits s (field ++ [(s.val b, p.T * p.digestBytes), (s.val d, p.T), (s.val r, p.digestBytes)]) →
    BitmapAt s (s.val d) → proofCount p bm ≤ p.mtMax → e ∉ [a, b, d, r] → (∀ j < p.T, Outside field (s.val d + j)) →
    (∀ i < p.T, bm.getD i false = false → ∀ j < p.digestBytes, Outside field (s.val b + i * p.digestBytes + j)) →
    ∃ t u v, exec (.mtproof a b d e) s = .next t ∧ exec (.mtrecomp r b a d e) t = .next u ∧
      exec (.mtroot r b) s = .next v ∧ u.str = true ∧
      ∀ j < p.digestBytes, u.byteAt (s.val r + j) = v.byteAt (s.val r + j)

/-! ### The signature protocol -/

/-- KEYGEN: one entropy request; the public key is the public seed and the packed syndrome of the embedded secret, the
private key the master seed, written last; ERR_ENTROPY when the port does not answer (47_protocol R381, R383, R392). -/
def Obligations.KeygenWritesTheKeyPair : Prop :=
  ∀ (s : State) (a b : Reg), Memory.wf s.buf →
    let p := s.params
    let seeds := fun ms : Bytes => streamBytes (s.xof (ms ++ le16 (3 * p.T + 1))) 0 (2 * p.seedBytes)
    WordOf 0x60 0x00FFFF#32 (.keygen a b) (wordR 0x60 a b 0 0 0 0) ∧
    (p.valid ≠ true → FaultsWith (.keygen a b) s .param) ∧
    (p.valid = true → ¬Fits s [(s.val a, p.pkBytes), (s.val b, p.seedBytes)] → FaultsWith (.keygen a b) s .addr) ∧
    (p.valid = true → Fits s [(s.val a, p.pkBytes), (s.val b, p.seedBytes)] →
      (s.entropyAnswer p.seedBytes = none →
        exec (.keygen a b) s = .next (s.entropyNext.takeFault .entropy (encode (.keygen a b)))) ∧
      ∀ ms V Wm short, s.entropyAnswer p.seedBytes = some ms →
        expandPublic s.xof p s.attempts ((seeds ms).take p.seedBytes) = some (V, Wm) →
        expandSecret s.xof p s.attempts ((seeds ms).drop p.seedBytes) = some short →
        Completes (.keygen a b) s
          { regions := [(s.val a, p.pkBytes), (s.val b, p.seedBytes)], xof := true, entropy := true } (fun t =>
            let pk := (seeds ms).take p.seedBytes ++
              packVec (bits p.Q) (p.syn V (p.embVec (if p.variant then p.expz Wm short else short)))
            pk.length = p.pkBytes ∧
            (∀ j, ∀ h : j < pk.length, Outside [(s.val b, p.seedBytes)] (s.val a + j) →
              t.byteAt (s.val a + j) = pk[j]) ∧
            Holds t (s.val b) ms ∧ ContextReset t ∧ t.entropyIn = s.entropyIn.tail ∧
            t.entropyCount = s.entropyCount + 1))

/-- SIGN: the root seed, then the salt, are drawn; the signature of R382 is written when the bitmap's count is within
both bounds, else ERR_BOUND; ERR_ENTROPY when either draw fails (47_protocol R393; which requests a failing draw
consumes is log 10). -/
def Obligations.SignWritesTheSignature : Prop :=
  ∀ (s : State) (a b c d : Reg), Memory.wf s.buf →
    let p := s.params
    let i := Instr.sign a b c d
    let regions : List Region := [(s.val a, p.sigBytes), (s.val b, p.skBytes), (s.val c, s.val d)]
    WordOf 0x61 0x0000FF#32 i (wordR 0x61 a b c d 0 0) ∧
    (p.valid ≠ true → FaultsWith i s .param) ∧
    (p.valid = true → ¬Fits s regions → FaultsWith i s .addr) ∧
    (p.valid = true → Fits s regions →
      (s.entropyAnswer p.seedBytes = none → exec i s = .next (s.entropyNext.takeFault .entropy (encode i))) ∧
      (∀ root, s.entropyAnswer p.seedBytes = some root →
        (s.entropyNext.entropyAnswer p.saltBytes = none →
          exec i s = .next (s.entropyNext.entropyNext.takeFault .entropy (encode i))) ∧
        ∀ salt bm sig, s.entropyNext.entropyAnswer p.saltBytes = some salt →
          signature s.xof p s.attempts (s.readBytes (s.val b) p.seedBytes) root salt
            (s.readBytes (s.val c) (s.val d)) = some (bm, sig) →
          let count := if p.flat then ones bm else (dset bm).length
          ((p.stMax < count ∨ p.mtMax < count) →
            exec i s = .next (s.entropyNext.entropyNext.takeFault .bound (encode i))) ∧
          (count ≤ p.stMax → count ≤ p.mtMax →
            Completes i s { regions := [(s.val a, p.sigBytes)], xof := true, entropy := true } (fun t =>
              sig.length = p.sigBytes ∧ Holds t (s.val a) sig ∧ ContextReset t ∧
              t.entropyIn = s.entropyIn.tail.tail ∧ t.entropyCount = s.entropyCount + 2))))

/-- A signature SIGN writes has the layout of R382: salt, digest_01 and digest_b of the rounds' commitments and responses,
the zero-filled disclosure and proof fields of the bitmap digest_b expands to, and the records of the opened rounds in
ascending order, each response, masked secret and cmt_1 being that round's; the records are canonical and their masked
secrets lie in the restricted subgroup (47_protocol R382, R387 to R391, R393). -/
def Obligations.SignatureHasTheLayout : Prop :=
  ∀ (X : Bytes → Nat → Byte) (p : Params) (tries : Nat) (ms root salt msg : Bytes) (b : List Bool) (sig : Bytes),
    p.valid = true → root.length = p.seedBytes → salt.length = p.saltBytes →
    signature X p tries ms root salt msg = some (b, sig) → coverCount p b ≤ p.stMax → coverCount p b ≤ p.mtMax →
    sig.length = p.sigBytes ∧ sigSalt p sig = salt ∧ expandBitmap X p tries (sigDigestB p sig) = some b ∧
      b.length = p.T ∧ ones b = p.W ∧ sigSt p sig = disclosureField X p root salt b ∧
      (∃ (V Wm short betas : List Nat) (rounds : List RoundOut) (ys : List (List Nat)),
        let dch1 := challengeDigest X p msg (sigDigest01 p sig) salt
        let cmt0s := rounds.map (·.cmt0)
        expandPublic X p tries (expandMaster X p ms).1 = some (V, Wm) ∧
        expandSecret X p tries (expandMaster X p ms).2 = some short ∧ rounds.length = p.T ∧
        (∀ i < p.T, rounds[i]? =
          roundCommit X p tries V Wm short ((roundSeeds X p root salt).getD i []) salt i) ∧
        sigDigest01 p sig = digest01 X p (merkleRoot X p cmt0s) (rounds.map (·.cmt1)) ∧
        challenges X p tries dch1 = some betas ∧ ys.length = p.T ∧
        (∀ i r, rounds[i]? = some r → ys[i]? = some (response p Wm r.mask r.blind (betas.getD i 0))) ∧
        sigDigestB p sig = digestB X p ys dch1 ∧ sigMt p sig = proofField X p cmt0s b ∧
        ∀ k < p.T - p.W, ∃ i r, (openedRounds b)[k]? = some i ∧ rounds[i]? = some r ∧
          sigRecord p sig k = record p (ys.getD i []) r) ∧
      ∀ k < p.T - p.W,
        packedCanonical p.Q p.N (recY p (sigRecord p sig k)) = true ∧
        packedCanonical p.Q p.L (recSigma p (sigRecord p sig k)) = true ∧
        (unpackVec (bits p.Q) p.L (recSigma p (sigRecord p sig k))).all p.inG = true

/-- VERIFY writes VFAIL and FLAGS.ACC and nothing else of what a host sees, BUF included; it never faults on the content
of the key, the message or the signature; a signature of the wrong length is Malformed without its region being tested;
ACC is 1 exactly when no class is set, and any class sets COMMITMENT (47_protocol R394, R398; 60_exceptions R457). That a
command whose draws have not ended within the windows one step examines is still BUSY after it, with more windows for the
next step, is the model's choice, log 5. -/
def Obligations.VerifyWritesItsVerdict : Prop :=
  ∀ (s : State) (a b c d e : Reg),
    let p := s.params
    let i := Instr.verify a b c d e
    let regions : List Region := [(s.val b, p.pkBytes), (s.val c, s.val d)]
    WordOf 0x62 0x00000F#32 i (wordR 0x62 a b c d e 0) ∧
    (p.valid ≠ true → FaultsWith i s .param) ∧
    (p.valid = true → s.val a ≠ p.sigBytes →
      (¬Fits s regions → FaultsWith i s .addr) ∧
      (Fits s regions → Completes i s { flags := [0], vfail := true, xof := true } (fun t =>
        t.acc = false ∧ t.vfail = 5 ∧ ContextReset t))) ∧
    (p.valid = true → s.val a = p.sigBytes →
      (¬Fits s (regions ++ [(s.val e, p.sigBytes)]) → FaultsWith i s .addr) ∧
      (Fits s (regions ++ [(s.val e, p.sigBytes)]) →
        (judge s.xof p s.attempts (s.readBytes (s.val b) p.pkBytes) (s.readBytes (s.val c) (s.val d))
            (s.readBytes (s.val e) p.sigBytes) = none → exec i s = .next (s.stayBusy (encode i))) ∧
        ∀ v, judge s.xof p s.attempts (s.readBytes (s.val b) p.pkBytes) (s.readBytes (s.val c) (s.val d))
            (s.readBytes (s.val e) p.sigBytes) = some v →
          Completes i s { flags := [0], vfail := true, xof := true } (fun t =>
            t.vfail.getLsbD 0 = v.malformed ∧ t.vfail.getLsbD 1 = v.membership ∧ t.vfail.getLsbD 2 = v.commitment ∧
            t.vfail.getLsbD 3 = v.structural ∧ (∀ k, 4 ≤ k → t.vfail.getLsbD k = false) ∧
            (t.acc = true ↔ t.vfail = 0) ∧ (t.vfail ≠ 0 → t.vfail.getLsbD 2 = true) ∧ ContextReset t)))

/-- The classes of a verdict: MALFORMED for a packed field of the key or of a record that is not canonical, MEMBERSHIP
for a masked secret outside the restricted subgroup, STRUCTURE for a count past its bound or a non-zero byte beyond the
items, COMMITMENT with any of these, and with none of them exactly when a recomputed digest differs from the signature's.
The digests are those of the T rounds: a hidden one replayed from its rebuilt seed, an opened one from its record, with
the root recomputed from the commitments and the proof (47_protocol R394 to R398). -/
def Obligations.VerdictClassesNameTheFailures : Prop :=
  ∀ (X : Bytes → Nat → Byte) (p : Params) (tries : Nat) (pk msg sig : Bytes) (V Wm betas : List Nat) (b : List Bool)
    (v : Verdict),
    let dch1 := challengeDigest X p msg (sigDigest01 p sig) (sigSalt p sig)
    let count := if p.flat then ones b else (dset b).length
    let item := sigRecord p sig
    let salt := sigSalt p sig
    let syndrome := unpackVec (bits p.Q) (p.N - p.K) (pk.drop p.seedBytes)
    let seed := fun i => (rebuiltSeeds X p (sigSt p sig) salt b).getD i []
    let beta := fun i => betas.getD i 0
    expandPublic X p tries (pk.take p.seedBytes) = some (V, Wm) → challenges X p tries dch1 = some betas →
    expandBitmap X p tries (sigDigestB p sig) = some b → judge X p tries pk msg sig = some v →
    (v.malformed = true ↔ packedCanonical p.Q (p.N - p.K) (pk.drop p.seedBytes) = false ∨
      ∃ k < b.count false, packedCanonical p.Q p.N (recY p (item k)) = false ∨
        packedCanonical p.Q p.L (recSigma p (item k)) = false) ∧
    (v.membership = true ↔
      ∃ k < b.count false, ∃ e ∈ unpackVec (bits p.Q) p.L (recSigma p (item k)), p.inG e = false) ∧
    (v.structural = true ↔ p.stMax < count ∨ p.mtMax < count ∨
      (∃ c ∈ (sigSt p sig).drop (count * p.seedBytes), c ≠ 0) ∨
      ∃ c ∈ (sigMt p sig).drop (count * p.digestBytes), c ≠ 0) ∧
    (v.malformed = true ∨ v.membership = true ∨ v.structural = true → v.commitment = true) ∧
    (v.malformed = false → v.membership = false → v.structural = false →
      ∃ rounds : List RoundCheck, rounds.length = p.T ∧
        (∀ i < p.T, b.getD i false = true → ∃ mask u unused, roundExpand X p tries (seed i) salt i = some (mask, u) ∧
          rounds[i]? = some ⟨response p Wm mask u (beta i), commit1 X p (seed i) salt i, unused⟩) ∧
        (∀ k i, i < p.T → (openedRounds b)[k]? = some i →
          let y := unpackVec (bits p.Q) p.N (recY p (item k))
          let sigma := unpackVec (bits p.Q) p.L (recSigma p (item k))
          let full := if p.variant then p.embVec (p.expz Wm (sigma.map p.dlog)) else sigma
          let consistency := subVec p.Q (p.syn V (mulVec p.Q full y)) (syndrome.map (mulMod p.Q (beta i)))
          rounds[i]? = some ⟨y, recCmt1 p (item k), commit0 X p consistency sigma salt i⟩) ∧
        (v.commitment = true ↔
          digest01 X p (recomputedRoot X p (rounds.map (·.cmt0)) (sigMt p sig) b) (rounds.map (·.cmt1)) ≠
            sigDigest01 p sig ∨
          digestB X p (rounds.map (·.y)) dch1 ≠ sigDigestB p sig))

/-- Completeness: a signature that signing gives under a generated key pair is accepted, for every valid parameter set,
both variants, both tree modes, every entropy draw, every message and every XOF: first of the computations, then of the
machine, where the host may have done anything between the three commands but keep the parameters and hand each its
inputs (47_protocol R401). That the later state examines no fewer windows a draw is the model's, log 5. -/
def Obligations.SignedMessagesVerify : Prop :=
  (∀ (X : Bytes → Nat → Byte) (p : Params) (tries : Nat) (ms root salt msg pk : Bytes) (b : List Bool) (sig : Bytes),
    p.valid = true → ms.length = p.seedBytes → root.length = p.seedBytes → salt.length = p.saltBytes →
    p.W ≤ p.stMax → p.W ≤ p.mtMax →
    publicKey X p tries ms = some pk → signature X p tries ms root salt msg = some (b, sig) →
    judge X p tries pk msg sig = some ⟨false, false, false, false⟩) ∧
  ∀ (s t u v w : State) (ka kb sa sb sc sd va vb vc vd ve : Reg), Memory.wf s.buf → Memory.wf u.buf →
    let p := s.params
    p.W ≤ p.stMax → p.W ≤ p.mtMax →
    exec (.keygen ka kb) s = .next t → t.running = none → s.err = false → t.err = false →
    (∀ j < p.pkBytes, Outside [(s.val kb, p.skBytes)] (s.val ka + j)) →
    u.params = p → u.xofKnown = s.xofKnown →
    u.readBytes (u.val sb) p.skBytes = t.readBytes (t.val kb) p.skBytes →
    exec (.sign sa sb sc sd) u = .next v → v.running = none → u.err = false → v.err = false →
    w.params = p → w.xofKnown = s.xofKnown → s.attempts ≤ w.attempts → u.attempts ≤ w.attempts →
    w.readBytes (w.val vb) p.pkBytes = t.readBytes (t.val ka) p.pkBytes →
    w.val vd = u.val sd → w.readBytes (w.val vc) (w.val vd) = u.readBytes (u.val sc) (u.val sd) →
    w.val va = p.sigBytes → w.readBytes (w.val ve) p.sigBytes = v.readBytes (v.val sa) p.sigBytes →
    Fits w [(w.val vb, p.pkBytes), (w.val vc, w.val vd), (w.val ve, p.sigBytes)] →
    ∃ z, exec (.verify va vb vc vd ve) w = .next z ∧ z.running = none ∧ z.err = w.err ∧ z.acc = true ∧ z.vfail = 0
end

