-- ==== Sys2Proof/Laws/Decode.lean ====
section
/-! SUPPORT. Every field of an assembled word reads back (30_encoding R131, R162), and a word is its fields. -/

namespace Sys2Proof

theorem horner_div (n s : Nat) (h : s < 16) : (n * 16 + s) / 16 = n := by omega

theorem horner_mod (n s : Nat) (h : s < 16) : (n * 16 + s) % 16 = s := by omega

theorem word_lt {op a b c d e s : Nat} (h0 : op < 256) (h1 : a < 16) (h2 : b < 16) (h3 : c < 16) (h4 : d < 16)
    (h5 : e < 16) (h6 : s < 16) :
    op * 2 ^ 24 + a * 2 ^ 20 + b * 2 ^ 16 + c * 2 ^ 12 + d * 2 ^ 8 + e * 2 ^ 4 + s < 2 ^ 32 := by omega

theorem word_eq (op a b c d e s : Nat) :
    op * 2 ^ 24 + a * 2 ^ 20 + b * 2 ^ 16 + c * 2 ^ 12 + d * 2 ^ 8 + e * 2 ^ 4 + s =
      (((((op * 16 + a) * 16 + b) * 16 + c) * 16 + d) * 16 + e) * 16 + s := by omega

theorem wordR_toNat (op : Nat) (a b c d e : Reg) (s : Sel) (h : op < 256) :
    (wordR op a b c d e s).toNat =
      (((((op * 16 + a.toNat) * 16 + b.toNat) * 16 + c.toNat) * 16 + d.toNat) * 16 + e.toNat) * 16 + s.toNat := by
  rw [wordR, BitVec.toNat_ofNat, Nat.mod_eq_of_lt (word_lt h a.isLt b.isLt c.isLt d.isLt e.isLt s.isLt), word_eq]

theorem opcodeOf_wordR (op : Nat) (a b c d e : Reg) (s : Sel) (h : op < 256) :
    (opcodeOf (wordR op a b c d e s)).toNat = op := by
  rw [opcodeOf, BitVec.extractLsb'_toNat, wordR_toNat _ _ _ _ _ _ _ h, Nat.shiftRight_eq_div_pow,
    show 2 ^ 24 = 16 * 16 * 16 * 16 * 16 * 16 from rfl]
  simp only [← Nat.div_div_eq_div_mul]
  rw [horner_div _ _ s.isLt, horner_div _ _ e.isLt, horner_div _ _ d.isLt, horner_div _ _ c.isLt, horner_div _ _ b.isLt, horner_div _ _ a.isLt]
  exact Nat.mod_eq_of_lt h

theorem fieldA_wordR (op : Nat) (a b c d e : Reg) (s : Sel) (h : op < 256) :
    fieldA (wordR op a b c d e s) = a := by
  apply BitVec.eq_of_toNat_eq
  rw [fieldA, BitVec.extractLsb'_toNat, wordR_toNat _ _ _ _ _ _ _ h, Nat.shiftRight_eq_div_pow,
    show 2 ^ 20 = 16 * 16 * 16 * 16 * 16 from rfl]
  simp only [← Nat.div_div_eq_div_mul]
  rw [horner_div _ _ s.isLt, horner_div _ _ e.isLt, horner_div _ _ d.isLt, horner_div _ _ c.isLt, horner_div _ _ b.isLt]
  exact horner_mod _ _ a.isLt

theorem fieldB_wordR (op : Nat) (a b c d e : Reg) (s : Sel) (h : op < 256) :
    fieldB (wordR op a b c d e s) = b := by
  apply BitVec.eq_of_toNat_eq
  rw [fieldB, BitVec.extractLsb'_toNat, wordR_toNat _ _ _ _ _ _ _ h, Nat.shiftRight_eq_div_pow,
    show 2 ^ 16 = 16 * 16 * 16 * 16 from rfl]
  simp only [← Nat.div_div_eq_div_mul]
  rw [horner_div _ _ s.isLt, horner_div _ _ e.isLt, horner_div _ _ d.isLt, horner_div _ _ c.isLt]
  exact horner_mod _ _ b.isLt

theorem fieldC_wordR (op : Nat) (a b c d e : Reg) (s : Sel) (h : op < 256) :
    fieldC (wordR op a b c d e s) = c := by
  apply BitVec.eq_of_toNat_eq
  rw [fieldC, BitVec.extractLsb'_toNat, wordR_toNat _ _ _ _ _ _ _ h, Nat.shiftRight_eq_div_pow,
    show 2 ^ 12 = 16 * 16 * 16 from rfl]
  simp only [← Nat.div_div_eq_div_mul]
  rw [horner_div _ _ s.isLt, horner_div _ _ e.isLt, horner_div _ _ d.isLt]
  exact horner_mod _ _ c.isLt

theorem fieldD_wordR (op : Nat) (a b c d e : Reg) (s : Sel) (h : op < 256) :
    fieldD (wordR op a b c d e s) = d := by
  apply BitVec.eq_of_toNat_eq
  rw [fieldD, BitVec.extractLsb'_toNat, wordR_toNat _ _ _ _ _ _ _ h, Nat.shiftRight_eq_div_pow,
    show 2 ^ 8 = 16 * 16 from rfl]
  simp only [← Nat.div_div_eq_div_mul]
  rw [horner_div _ _ s.isLt, horner_div _ _ e.isLt]
  exact horner_mod _ _ d.isLt

theorem fieldE_wordR (op : Nat) (a b c d e : Reg) (s : Sel) (h : op < 256) :
    fieldE (wordR op a b c d e s) = e := by
  apply BitVec.eq_of_toNat_eq
  rw [fieldE, BitVec.extractLsb'_toNat, wordR_toNat _ _ _ _ _ _ _ h, Nat.shiftRight_eq_div_pow,
    show 2 ^ 4 = 16 from rfl, horner_div _ _ s.isLt]
  exact horner_mod _ _ e.isLt

theorem fieldSel_wordR (op : Nat) (a b c d e : Reg) (s : Sel) (h : op < 256) :
    fieldSel (wordR op a b c d e s) = s := by
  apply BitVec.eq_of_toNat_eq
  rw [fieldSel, BitVec.extractLsb'_toNat, wordR_toNat _ _ _ _ _ _ _ h, Nat.shiftRight_eq_div_pow, Nat.pow_zero, Nat.div_one]
  exact horner_mod _ _ s.isLt

theorem wordI_lt {op a i : Nat} (h0 : op < 256) (h1 : a < 16) (h2 : i < 65536) :
    op * 2 ^ 24 + a * 2 ^ 20 + i < 2 ^ 32 := by omega

theorem wordI_toNat (op : Nat) (a : Reg) (imm : Imm16) (h : op < 256) :
    (wordI op a imm).toNat = op * 2 ^ 24 + a.toNat * 2 ^ 20 + imm.toNat := by
  rw [wordI, BitVec.toNat_ofNat, Nat.mod_eq_of_lt (wordI_lt h a.isLt imm.isLt)]

theorem wordI_opcode {op a i : Nat} (h0 : op < 256) (h1 : a < 16) (h2 : i < 65536) :
    (op * 2 ^ 24 + a * 2 ^ 20 + i) / 2 ^ 24 % 2 ^ 8 = op := by omega
theorem wordI_a {op a i : Nat} (h1 : a < 16) (h2 : i < 65536) :
    (op * 2 ^ 24 + a * 2 ^ 20 + i) / 2 ^ 20 % 2 ^ 4 = a := by omega
theorem wordI_zero {op a i : Nat} (h2 : i < 65536) : (op * 2 ^ 24 + a * 2 ^ 20 + i) / 2 ^ 16 % 2 ^ 4 = 0 := by omega
theorem wordI_imm {op a i : Nat} (h2 : i < 65536) : (op * 2 ^ 24 + a * 2 ^ 20 + i) / 2 ^ 0 % 2 ^ 16 = i := by omega

theorem opcodeOf_wordI (op : Nat) (a : Reg) (imm : Imm16) (h : op < 256) :
    (opcodeOf (wordI op a imm)).toNat = op := by
  rw [opcodeOf, BitVec.extractLsb'_toNat, wordI_toNat _ _ _ h, Nat.shiftRight_eq_div_pow]
  exact wordI_opcode h a.isLt imm.isLt

theorem fieldA_wordI (op : Nat) (a : Reg) (imm : Imm16) (h : op < 256) : fieldA (wordI op a imm) = a := by
  apply BitVec.eq_of_toNat_eq
  rw [fieldA, BitVec.extractLsb'_toNat, wordI_toNat _ _ _ h, Nat.shiftRight_eq_div_pow]
  exact wordI_a a.isLt imm.isLt

theorem fieldB_wordI (op : Nat) (a : Reg) (imm : Imm16) (h : op < 256) : fieldB (wordI op a imm) = 0 := by
  apply BitVec.eq_of_toNat_eq
  rw [fieldB, BitVec.extractLsb'_toNat, wordI_toNat _ _ _ h, Nat.shiftRight_eq_div_pow]
  exact wordI_zero imm.isLt

theorem fieldImm_wordI (op : Nat) (a : Reg) (imm : Imm16) (h : op < 256) : fieldImm (wordI op a imm) = imm := by
  apply BitVec.eq_of_toNat_eq
  rw [fieldImm, BitVec.extractLsb'_toNat, wordI_toNat _ _ _ h, Nat.shiftRight_eq_div_pow]
  exact wordI_imm imm.isLt

end Sys2Proof
end

