-- ==== Sys2Proof/Laws/State.lean ====
section
/-! SUPPORT. One lemma per field of State for each state update, true by unfolding the update. -/

namespace Sys2Proof.Machine

/-! ### setX -/

@[simp] theorem State.setX_x (s : State) (r : Reg) (v : Nat) : (s.setX r v).x = s.x.set r.toNat (BitVec.ofNat 32 v) r.isLt := rfl
@[simp] theorem State.setX_ctrl (s : State) (r : Reg) (v : Nat) : (s.setX r v).ctrl = s.ctrl := rfl
@[simp] theorem State.setX_status (s : State) (r : Reg) (v : Nat) : (s.setX r v).status = s.status := rfl
@[simp] theorem State.setX_errcode (s : State) (r : Reg) (v : Nat) : (s.setX r v).errcode = s.errcode := rfl
@[simp] theorem State.setX_errinfo (s : State) (r : Reg) (v : Nat) : (s.setX r v).errinfo = s.errinfo := rfl
@[simp] theorem State.setX_flags (s : State) (r : Reg) (v : Nat) : (s.setX r v).flags = s.flags := rfl
@[simp] theorem State.setX_vfail (s : State) (r : Reg) (v : Nat) : (s.setX r v).vfail = s.vfail := rfl
@[simp] theorem State.setX_pseq (s : State) (r : Reg) (v : Nat) : (s.setX r v).pseq = s.pseq := rfl
@[simp] theorem State.setX_params (s : State) (r : Reg) (v : Nat) : (s.setX r v).params = s.params := rfl
@[simp] theorem State.setX_xph (s : State) (r : Reg) (v : Nat) : (s.setX r v).xph = s.xph := rfl
@[simp] theorem State.setX_xin (s : State) (r : Reg) (v : Nat) : (s.setX r v).xin = s.xin := rfl
@[simp] theorem State.setX_xpos (s : State) (r : Reg) (v : Nat) : (s.setX r v).xpos = s.xpos := rfl
@[simp] theorem State.setX_buf (s : State) (r : Reg) (v : Nat) : (s.setX r v).buf = s.buf := rfl
@[simp] theorem State.setX_running (s : State) (r : Reg) (v : Nat) : (s.setX r v).running = s.running := rfl
@[simp] theorem State.setX_bufBytes (s : State) (r : Reg) (v : Nat) : (s.setX r v).bufBytes = s.bufBytes := rfl
@[simp] theorem State.setX_xofKnown (s : State) (r : Reg) (v : Nat) : (s.setX r v).xofKnown = s.xofKnown := rfl
@[simp] theorem State.setX_entropyIn (s : State) (r : Reg) (v : Nat) : (s.setX r v).entropyIn = s.entropyIn := rfl
@[simp] theorem State.setX_entropyCount (s : State) (r : Reg) (v : Nat) : (s.setX r v).entropyCount = s.entropyCount := rfl
@[simp] theorem State.setX_freeCount (s : State) (r : Reg) (v : Nat) : (s.setX r v).freeCount = s.freeCount := rfl
@[simp] theorem State.setX_attempts (s : State) (r : Reg) (v : Nat) : (s.setX r v).attempts = s.attempts := rfl
@[simp] theorem State.setX_host (s : State) (r : Reg) (v : Nat) : (s.setX r v).host = s.host := rfl
@[simp] theorem State.setX_reply (s : State) (r : Reg) (v : Nat) : (s.setX r v).reply = s.reply := rfl

/-! ### writeBytes -/

@[simp] theorem State.writeBytes_x (s : State) (a : Nat) (bs : Bytes) : (s.writeBytes a bs).x = s.x := rfl
@[simp] theorem State.writeBytes_ctrl (s : State) (a : Nat) (bs : Bytes) : (s.writeBytes a bs).ctrl = s.ctrl := rfl
@[simp] theorem State.writeBytes_status (s : State) (a : Nat) (bs : Bytes) : (s.writeBytes a bs).status = s.status := rfl
@[simp] theorem State.writeBytes_errcode (s : State) (a : Nat) (bs : Bytes) : (s.writeBytes a bs).errcode = s.errcode := rfl
@[simp] theorem State.writeBytes_errinfo (s : State) (a : Nat) (bs : Bytes) : (s.writeBytes a bs).errinfo = s.errinfo := rfl
@[simp] theorem State.writeBytes_flags (s : State) (a : Nat) (bs : Bytes) : (s.writeBytes a bs).flags = s.flags := rfl
@[simp] theorem State.writeBytes_vfail (s : State) (a : Nat) (bs : Bytes) : (s.writeBytes a bs).vfail = s.vfail := rfl
@[simp] theorem State.writeBytes_pseq (s : State) (a : Nat) (bs : Bytes) : (s.writeBytes a bs).pseq = s.pseq := rfl
@[simp] theorem State.writeBytes_params (s : State) (a : Nat) (bs : Bytes) : (s.writeBytes a bs).params = s.params := rfl
@[simp] theorem State.writeBytes_xph (s : State) (a : Nat) (bs : Bytes) : (s.writeBytes a bs).xph = s.xph := rfl
@[simp] theorem State.writeBytes_xin (s : State) (a : Nat) (bs : Bytes) : (s.writeBytes a bs).xin = s.xin := rfl
@[simp] theorem State.writeBytes_xpos (s : State) (a : Nat) (bs : Bytes) : (s.writeBytes a bs).xpos = s.xpos := rfl
@[simp] theorem State.writeBytes_buf (s : State) (a : Nat) (bs : Bytes) : (s.writeBytes a bs).buf = Memory.write s.buf a bs := rfl
@[simp] theorem State.writeBytes_running (s : State) (a : Nat) (bs : Bytes) : (s.writeBytes a bs).running = s.running := rfl
@[simp] theorem State.writeBytes_bufBytes (s : State) (a : Nat) (bs : Bytes) : (s.writeBytes a bs).bufBytes = s.bufBytes := rfl
@[simp] theorem State.writeBytes_xofKnown (s : State) (a : Nat) (bs : Bytes) : (s.writeBytes a bs).xofKnown = s.xofKnown := rfl
@[simp] theorem State.writeBytes_entropyIn (s : State) (a : Nat) (bs : Bytes) : (s.writeBytes a bs).entropyIn = s.entropyIn := rfl
@[simp] theorem State.writeBytes_entropyCount (s : State) (a : Nat) (bs : Bytes) : (s.writeBytes a bs).entropyCount = s.entropyCount := rfl
@[simp] theorem State.writeBytes_freeCount (s : State) (a : Nat) (bs : Bytes) : (s.writeBytes a bs).freeCount = s.freeCount := rfl
@[simp] theorem State.writeBytes_attempts (s : State) (a : Nat) (bs : Bytes) : (s.writeBytes a bs).attempts = s.attempts := rfl
@[simp] theorem State.writeBytes_host (s : State) (a : Nat) (bs : Bytes) : (s.writeBytes a bs).host = s.host := rfl
@[simp] theorem State.writeBytes_reply (s : State) (a : Nat) (bs : Bytes) : (s.writeBytes a bs).reply = s.reply := rfl

/-! ### writeElems -/

@[simp] theorem State.writeElems_x (s : State) (a : Nat) (vs : List Nat) : (s.writeElems a vs).x = s.x := rfl
@[simp] theorem State.writeElems_ctrl (s : State) (a : Nat) (vs : List Nat) : (s.writeElems a vs).ctrl = s.ctrl := rfl
@[simp] theorem State.writeElems_status (s : State) (a : Nat) (vs : List Nat) : (s.writeElems a vs).status = s.status := rfl
@[simp] theorem State.writeElems_errcode (s : State) (a : Nat) (vs : List Nat) : (s.writeElems a vs).errcode = s.errcode := rfl
@[simp] theorem State.writeElems_errinfo (s : State) (a : Nat) (vs : List Nat) : (s.writeElems a vs).errinfo = s.errinfo := rfl
@[simp] theorem State.writeElems_flags (s : State) (a : Nat) (vs : List Nat) : (s.writeElems a vs).flags = s.flags := rfl
@[simp] theorem State.writeElems_vfail (s : State) (a : Nat) (vs : List Nat) : (s.writeElems a vs).vfail = s.vfail := rfl
@[simp] theorem State.writeElems_pseq (s : State) (a : Nat) (vs : List Nat) : (s.writeElems a vs).pseq = s.pseq := rfl
@[simp] theorem State.writeElems_params (s : State) (a : Nat) (vs : List Nat) : (s.writeElems a vs).params = s.params := rfl
@[simp] theorem State.writeElems_xph (s : State) (a : Nat) (vs : List Nat) : (s.writeElems a vs).xph = s.xph := rfl
@[simp] theorem State.writeElems_xin (s : State) (a : Nat) (vs : List Nat) : (s.writeElems a vs).xin = s.xin := rfl
@[simp] theorem State.writeElems_xpos (s : State) (a : Nat) (vs : List Nat) : (s.writeElems a vs).xpos = s.xpos := rfl
@[simp] theorem State.writeElems_buf (s : State) (a : Nat) (vs : List Nat) : (s.writeElems a vs).buf = Memory.write s.buf a (elemBytes vs) := rfl
@[simp] theorem State.writeElems_running (s : State) (a : Nat) (vs : List Nat) : (s.writeElems a vs).running = s.running := rfl
@[simp] theorem State.writeElems_bufBytes (s : State) (a : Nat) (vs : List Nat) : (s.writeElems a vs).bufBytes = s.bufBytes := rfl
@[simp] theorem State.writeElems_xofKnown (s : State) (a : Nat) (vs : List Nat) : (s.writeElems a vs).xofKnown = s.xofKnown := rfl
@[simp] theorem State.writeElems_entropyIn (s : State) (a : Nat) (vs : List Nat) : (s.writeElems a vs).entropyIn = s.entropyIn := rfl
@[simp] theorem State.writeElems_entropyCount (s : State) (a : Nat) (vs : List Nat) : (s.writeElems a vs).entropyCount = s.entropyCount := rfl
@[simp] theorem State.writeElems_freeCount (s : State) (a : Nat) (vs : List Nat) : (s.writeElems a vs).freeCount = s.freeCount := rfl
@[simp] theorem State.writeElems_attempts (s : State) (a : Nat) (vs : List Nat) : (s.writeElems a vs).attempts = s.attempts := rfl
@[simp] theorem State.writeElems_host (s : State) (a : Nat) (vs : List Nat) : (s.writeElems a vs).host = s.host := rfl
@[simp] theorem State.writeElems_reply (s : State) (a : Nat) (vs : List Nat) : (s.writeElems a vs).reply = s.reply := rfl

/-! ### setAcc -/

@[simp] theorem State.setAcc_x (s : State) (b : Bool) : (s.setAcc b).x = s.x := rfl
@[simp] theorem State.setAcc_ctrl (s : State) (b : Bool) : (s.setAcc b).ctrl = s.ctrl := rfl
@[simp] theorem State.setAcc_status (s : State) (b : Bool) : (s.setAcc b).status = s.status := rfl
@[simp] theorem State.setAcc_errcode (s : State) (b : Bool) : (s.setAcc b).errcode = s.errcode := rfl
@[simp] theorem State.setAcc_errinfo (s : State) (b : Bool) : (s.setAcc b).errinfo = s.errinfo := rfl
@[simp] theorem State.setAcc_flags (s : State) (b : Bool) : (s.setAcc b).flags = setBit s.flags 0 b := rfl
@[simp] theorem State.setAcc_vfail (s : State) (b : Bool) : (s.setAcc b).vfail = s.vfail := rfl
@[simp] theorem State.setAcc_pseq (s : State) (b : Bool) : (s.setAcc b).pseq = s.pseq := rfl
@[simp] theorem State.setAcc_params (s : State) (b : Bool) : (s.setAcc b).params = s.params := rfl
@[simp] theorem State.setAcc_xph (s : State) (b : Bool) : (s.setAcc b).xph = s.xph := rfl
@[simp] theorem State.setAcc_xin (s : State) (b : Bool) : (s.setAcc b).xin = s.xin := rfl
@[simp] theorem State.setAcc_xpos (s : State) (b : Bool) : (s.setAcc b).xpos = s.xpos := rfl
@[simp] theorem State.setAcc_buf (s : State) (b : Bool) : (s.setAcc b).buf = s.buf := rfl
@[simp] theorem State.setAcc_running (s : State) (b : Bool) : (s.setAcc b).running = s.running := rfl
@[simp] theorem State.setAcc_bufBytes (s : State) (b : Bool) : (s.setAcc b).bufBytes = s.bufBytes := rfl
@[simp] theorem State.setAcc_xofKnown (s : State) (b : Bool) : (s.setAcc b).xofKnown = s.xofKnown := rfl
@[simp] theorem State.setAcc_entropyIn (s : State) (b : Bool) : (s.setAcc b).entropyIn = s.entropyIn := rfl
@[simp] theorem State.setAcc_entropyCount (s : State) (b : Bool) : (s.setAcc b).entropyCount = s.entropyCount := rfl
@[simp] theorem State.setAcc_freeCount (s : State) (b : Bool) : (s.setAcc b).freeCount = s.freeCount := rfl
@[simp] theorem State.setAcc_attempts (s : State) (b : Bool) : (s.setAcc b).attempts = s.attempts := rfl
@[simp] theorem State.setAcc_host (s : State) (b : Bool) : (s.setAcc b).host = s.host := rfl
@[simp] theorem State.setAcc_reply (s : State) (b : Bool) : (s.setAcc b).reply = s.reply := rfl

/-! ### setGrp -/

@[simp] theorem State.setGrp_x (s : State) (b : Bool) : (s.setGrp b).x = s.x := rfl
@[simp] theorem State.setGrp_ctrl (s : State) (b : Bool) : (s.setGrp b).ctrl = s.ctrl := rfl
@[simp] theorem State.setGrp_status (s : State) (b : Bool) : (s.setGrp b).status = s.status := rfl
@[simp] theorem State.setGrp_errcode (s : State) (b : Bool) : (s.setGrp b).errcode = s.errcode := rfl
@[simp] theorem State.setGrp_errinfo (s : State) (b : Bool) : (s.setGrp b).errinfo = s.errinfo := rfl
@[simp] theorem State.setGrp_flags (s : State) (b : Bool) : (s.setGrp b).flags = setBit s.flags 1 b := rfl
@[simp] theorem State.setGrp_vfail (s : State) (b : Bool) : (s.setGrp b).vfail = s.vfail := rfl
@[simp] theorem State.setGrp_pseq (s : State) (b : Bool) : (s.setGrp b).pseq = s.pseq := rfl
@[simp] theorem State.setGrp_params (s : State) (b : Bool) : (s.setGrp b).params = s.params := rfl
@[simp] theorem State.setGrp_xph (s : State) (b : Bool) : (s.setGrp b).xph = s.xph := rfl
@[simp] theorem State.setGrp_xin (s : State) (b : Bool) : (s.setGrp b).xin = s.xin := rfl
@[simp] theorem State.setGrp_xpos (s : State) (b : Bool) : (s.setGrp b).xpos = s.xpos := rfl
@[simp] theorem State.setGrp_buf (s : State) (b : Bool) : (s.setGrp b).buf = s.buf := rfl
@[simp] theorem State.setGrp_running (s : State) (b : Bool) : (s.setGrp b).running = s.running := rfl
@[simp] theorem State.setGrp_bufBytes (s : State) (b : Bool) : (s.setGrp b).bufBytes = s.bufBytes := rfl
@[simp] theorem State.setGrp_xofKnown (s : State) (b : Bool) : (s.setGrp b).xofKnown = s.xofKnown := rfl
@[simp] theorem State.setGrp_entropyIn (s : State) (b : Bool) : (s.setGrp b).entropyIn = s.entropyIn := rfl
@[simp] theorem State.setGrp_entropyCount (s : State) (b : Bool) : (s.setGrp b).entropyCount = s.entropyCount := rfl
@[simp] theorem State.setGrp_freeCount (s : State) (b : Bool) : (s.setGrp b).freeCount = s.freeCount := rfl
@[simp] theorem State.setGrp_attempts (s : State) (b : Bool) : (s.setGrp b).attempts = s.attempts := rfl
@[simp] theorem State.setGrp_host (s : State) (b : Bool) : (s.setGrp b).host = s.host := rfl
@[simp] theorem State.setGrp_reply (s : State) (b : Bool) : (s.setGrp b).reply = s.reply := rfl

/-! ### setCan -/

@[simp] theorem State.setCan_x (s : State) (b : Bool) : (s.setCan b).x = s.x := rfl
@[simp] theorem State.setCan_ctrl (s : State) (b : Bool) : (s.setCan b).ctrl = s.ctrl := rfl
@[simp] theorem State.setCan_status (s : State) (b : Bool) : (s.setCan b).status = s.status := rfl
@[simp] theorem State.setCan_errcode (s : State) (b : Bool) : (s.setCan b).errcode = s.errcode := rfl
@[simp] theorem State.setCan_errinfo (s : State) (b : Bool) : (s.setCan b).errinfo = s.errinfo := rfl
@[simp] theorem State.setCan_flags (s : State) (b : Bool) : (s.setCan b).flags = setBit s.flags 2 b := rfl
@[simp] theorem State.setCan_vfail (s : State) (b : Bool) : (s.setCan b).vfail = s.vfail := rfl
@[simp] theorem State.setCan_pseq (s : State) (b : Bool) : (s.setCan b).pseq = s.pseq := rfl
@[simp] theorem State.setCan_params (s : State) (b : Bool) : (s.setCan b).params = s.params := rfl
@[simp] theorem State.setCan_xph (s : State) (b : Bool) : (s.setCan b).xph = s.xph := rfl
@[simp] theorem State.setCan_xin (s : State) (b : Bool) : (s.setCan b).xin = s.xin := rfl
@[simp] theorem State.setCan_xpos (s : State) (b : Bool) : (s.setCan b).xpos = s.xpos := rfl
@[simp] theorem State.setCan_buf (s : State) (b : Bool) : (s.setCan b).buf = s.buf := rfl
@[simp] theorem State.setCan_running (s : State) (b : Bool) : (s.setCan b).running = s.running := rfl
@[simp] theorem State.setCan_bufBytes (s : State) (b : Bool) : (s.setCan b).bufBytes = s.bufBytes := rfl
@[simp] theorem State.setCan_xofKnown (s : State) (b : Bool) : (s.setCan b).xofKnown = s.xofKnown := rfl
@[simp] theorem State.setCan_entropyIn (s : State) (b : Bool) : (s.setCan b).entropyIn = s.entropyIn := rfl
@[simp] theorem State.setCan_entropyCount (s : State) (b : Bool) : (s.setCan b).entropyCount = s.entropyCount := rfl
@[simp] theorem State.setCan_freeCount (s : State) (b : Bool) : (s.setCan b).freeCount = s.freeCount := rfl
@[simp] theorem State.setCan_attempts (s : State) (b : Bool) : (s.setCan b).attempts = s.attempts := rfl
@[simp] theorem State.setCan_host (s : State) (b : Bool) : (s.setCan b).host = s.host := rfl
@[simp] theorem State.setCan_reply (s : State) (b : Bool) : (s.setCan b).reply = s.reply := rfl

/-! ### setStr -/

@[simp] theorem State.setStr_x (s : State) (b : Bool) : (s.setStr b).x = s.x := rfl
@[simp] theorem State.setStr_ctrl (s : State) (b : Bool) : (s.setStr b).ctrl = s.ctrl := rfl
@[simp] theorem State.setStr_status (s : State) (b : Bool) : (s.setStr b).status = s.status := rfl
@[simp] theorem State.setStr_errcode (s : State) (b : Bool) : (s.setStr b).errcode = s.errcode := rfl
@[simp] theorem State.setStr_errinfo (s : State) (b : Bool) : (s.setStr b).errinfo = s.errinfo := rfl
@[simp] theorem State.setStr_flags (s : State) (b : Bool) : (s.setStr b).flags = setBit s.flags 3 b := rfl
@[simp] theorem State.setStr_vfail (s : State) (b : Bool) : (s.setStr b).vfail = s.vfail := rfl
@[simp] theorem State.setStr_pseq (s : State) (b : Bool) : (s.setStr b).pseq = s.pseq := rfl
@[simp] theorem State.setStr_params (s : State) (b : Bool) : (s.setStr b).params = s.params := rfl
@[simp] theorem State.setStr_xph (s : State) (b : Bool) : (s.setStr b).xph = s.xph := rfl
@[simp] theorem State.setStr_xin (s : State) (b : Bool) : (s.setStr b).xin = s.xin := rfl
@[simp] theorem State.setStr_xpos (s : State) (b : Bool) : (s.setStr b).xpos = s.xpos := rfl
@[simp] theorem State.setStr_buf (s : State) (b : Bool) : (s.setStr b).buf = s.buf := rfl
@[simp] theorem State.setStr_running (s : State) (b : Bool) : (s.setStr b).running = s.running := rfl
@[simp] theorem State.setStr_bufBytes (s : State) (b : Bool) : (s.setStr b).bufBytes = s.bufBytes := rfl
@[simp] theorem State.setStr_xofKnown (s : State) (b : Bool) : (s.setStr b).xofKnown = s.xofKnown := rfl
@[simp] theorem State.setStr_entropyIn (s : State) (b : Bool) : (s.setStr b).entropyIn = s.entropyIn := rfl
@[simp] theorem State.setStr_entropyCount (s : State) (b : Bool) : (s.setStr b).entropyCount = s.entropyCount := rfl
@[simp] theorem State.setStr_freeCount (s : State) (b : Bool) : (s.setStr b).freeCount = s.freeCount := rfl
@[simp] theorem State.setStr_attempts (s : State) (b : Bool) : (s.setStr b).attempts = s.attempts := rfl
@[simp] theorem State.setStr_host (s : State) (b : Bool) : (s.setStr b).host = s.host := rfl
@[simp] theorem State.setStr_reply (s : State) (b : Bool) : (s.setStr b).reply = s.reply := rfl

/-! ### setOvr -/

@[simp] theorem State.setOvr_x (s : State) : (s.setOvr).x = s.x := rfl
@[simp] theorem State.setOvr_ctrl (s : State) : (s.setOvr).ctrl = s.ctrl := rfl
@[simp] theorem State.setOvr_status (s : State) : (s.setOvr).status = setBit s.status 3 true := rfl
@[simp] theorem State.setOvr_errcode (s : State) : (s.setOvr).errcode = s.errcode := rfl
@[simp] theorem State.setOvr_errinfo (s : State) : (s.setOvr).errinfo = s.errinfo := rfl
@[simp] theorem State.setOvr_flags (s : State) : (s.setOvr).flags = s.flags := rfl
@[simp] theorem State.setOvr_vfail (s : State) : (s.setOvr).vfail = s.vfail := rfl
@[simp] theorem State.setOvr_pseq (s : State) : (s.setOvr).pseq = s.pseq := rfl
@[simp] theorem State.setOvr_params (s : State) : (s.setOvr).params = s.params := rfl
@[simp] theorem State.setOvr_xph (s : State) : (s.setOvr).xph = s.xph := rfl
@[simp] theorem State.setOvr_xin (s : State) : (s.setOvr).xin = s.xin := rfl
@[simp] theorem State.setOvr_xpos (s : State) : (s.setOvr).xpos = s.xpos := rfl
@[simp] theorem State.setOvr_buf (s : State) : (s.setOvr).buf = s.buf := rfl
@[simp] theorem State.setOvr_running (s : State) : (s.setOvr).running = s.running := rfl
@[simp] theorem State.setOvr_bufBytes (s : State) : (s.setOvr).bufBytes = s.bufBytes := rfl
@[simp] theorem State.setOvr_xofKnown (s : State) : (s.setOvr).xofKnown = s.xofKnown := rfl
@[simp] theorem State.setOvr_entropyIn (s : State) : (s.setOvr).entropyIn = s.entropyIn := rfl
@[simp] theorem State.setOvr_entropyCount (s : State) : (s.setOvr).entropyCount = s.entropyCount := rfl
@[simp] theorem State.setOvr_freeCount (s : State) : (s.setOvr).freeCount = s.freeCount := rfl
@[simp] theorem State.setOvr_attempts (s : State) : (s.setOvr).attempts = s.attempts := rfl
@[simp] theorem State.setOvr_host (s : State) : (s.setOvr).host = s.host := rfl
@[simp] theorem State.setOvr_reply (s : State) : (s.setOvr).reply = s.reply := rfl

/-! ### xofOpen -/

@[simp] theorem State.xofOpen_x (s : State) : (s.xofOpen).x = s.x := rfl
@[simp] theorem State.xofOpen_ctrl (s : State) : (s.xofOpen).ctrl = s.ctrl := rfl
@[simp] theorem State.xofOpen_status (s : State) : (s.xofOpen).status = s.status := rfl
@[simp] theorem State.xofOpen_errcode (s : State) : (s.xofOpen).errcode = s.errcode := rfl
@[simp] theorem State.xofOpen_errinfo (s : State) : (s.xofOpen).errinfo = s.errinfo := rfl
@[simp] theorem State.xofOpen_flags (s : State) : (s.xofOpen).flags = s.flags := rfl
@[simp] theorem State.xofOpen_vfail (s : State) : (s.xofOpen).vfail = s.vfail := rfl
@[simp] theorem State.xofOpen_pseq (s : State) : (s.xofOpen).pseq = s.pseq := rfl
@[simp] theorem State.xofOpen_params (s : State) : (s.xofOpen).params = s.params := rfl
@[simp] theorem State.xofOpen_xph (s : State) : (s.xofOpen).xph = .absorb := rfl
@[simp] theorem State.xofOpen_xin (s : State) : (s.xofOpen).xin = [] := rfl
@[simp] theorem State.xofOpen_xpos (s : State) : (s.xofOpen).xpos = 0 := rfl
@[simp] theorem State.xofOpen_buf (s : State) : (s.xofOpen).buf = s.buf := rfl
@[simp] theorem State.xofOpen_running (s : State) : (s.xofOpen).running = s.running := rfl
@[simp] theorem State.xofOpen_bufBytes (s : State) : (s.xofOpen).bufBytes = s.bufBytes := rfl
@[simp] theorem State.xofOpen_xofKnown (s : State) : (s.xofOpen).xofKnown = s.xofKnown := rfl
@[simp] theorem State.xofOpen_entropyIn (s : State) : (s.xofOpen).entropyIn = s.entropyIn := rfl
@[simp] theorem State.xofOpen_entropyCount (s : State) : (s.xofOpen).entropyCount = s.entropyCount := rfl
@[simp] theorem State.xofOpen_freeCount (s : State) : (s.xofOpen).freeCount = s.freeCount := rfl
@[simp] theorem State.xofOpen_attempts (s : State) : (s.xofOpen).attempts = s.attempts := rfl
@[simp] theorem State.xofOpen_host (s : State) : (s.xofOpen).host = s.host := rfl
@[simp] theorem State.xofOpen_reply (s : State) : (s.xofOpen).reply = s.reply := rfl

/-! ### xofAbsorb -/

@[simp] theorem State.xofAbsorb_x (s : State) (bs : Bytes) : (s.xofAbsorb bs).x = s.x := rfl
@[simp] theorem State.xofAbsorb_ctrl (s : State) (bs : Bytes) : (s.xofAbsorb bs).ctrl = s.ctrl := rfl
@[simp] theorem State.xofAbsorb_status (s : State) (bs : Bytes) : (s.xofAbsorb bs).status = s.status := rfl
@[simp] theorem State.xofAbsorb_errcode (s : State) (bs : Bytes) : (s.xofAbsorb bs).errcode = s.errcode := rfl
@[simp] theorem State.xofAbsorb_errinfo (s : State) (bs : Bytes) : (s.xofAbsorb bs).errinfo = s.errinfo := rfl
@[simp] theorem State.xofAbsorb_flags (s : State) (bs : Bytes) : (s.xofAbsorb bs).flags = s.flags := rfl
@[simp] theorem State.xofAbsorb_vfail (s : State) (bs : Bytes) : (s.xofAbsorb bs).vfail = s.vfail := rfl
@[simp] theorem State.xofAbsorb_pseq (s : State) (bs : Bytes) : (s.xofAbsorb bs).pseq = s.pseq := rfl
@[simp] theorem State.xofAbsorb_params (s : State) (bs : Bytes) : (s.xofAbsorb bs).params = s.params := rfl
@[simp] theorem State.xofAbsorb_xph (s : State) (bs : Bytes) : (s.xofAbsorb bs).xph = s.xph := rfl
@[simp] theorem State.xofAbsorb_xin (s : State) (bs : Bytes) : (s.xofAbsorb bs).xin = s.xin ++ bs := rfl
@[simp] theorem State.xofAbsorb_xpos (s : State) (bs : Bytes) : (s.xofAbsorb bs).xpos = s.xpos := rfl
@[simp] theorem State.xofAbsorb_buf (s : State) (bs : Bytes) : (s.xofAbsorb bs).buf = s.buf := rfl
@[simp] theorem State.xofAbsorb_running (s : State) (bs : Bytes) : (s.xofAbsorb bs).running = s.running := rfl
@[simp] theorem State.xofAbsorb_bufBytes (s : State) (bs : Bytes) : (s.xofAbsorb bs).bufBytes = s.bufBytes := rfl
@[simp] theorem State.xofAbsorb_xofKnown (s : State) (bs : Bytes) : (s.xofAbsorb bs).xofKnown = s.xofKnown := rfl
@[simp] theorem State.xofAbsorb_entropyIn (s : State) (bs : Bytes) : (s.xofAbsorb bs).entropyIn = s.entropyIn := rfl
@[simp] theorem State.xofAbsorb_entropyCount (s : State) (bs : Bytes) : (s.xofAbsorb bs).entropyCount = s.entropyCount := rfl
@[simp] theorem State.xofAbsorb_freeCount (s : State) (bs : Bytes) : (s.xofAbsorb bs).freeCount = s.freeCount := rfl
@[simp] theorem State.xofAbsorb_attempts (s : State) (bs : Bytes) : (s.xofAbsorb bs).attempts = s.attempts := rfl
@[simp] theorem State.xofAbsorb_host (s : State) (bs : Bytes) : (s.xofAbsorb bs).host = s.host := rfl
@[simp] theorem State.xofAbsorb_reply (s : State) (bs : Bytes) : (s.xofAbsorb bs).reply = s.reply := rfl

/-! ### xofFinish -/

@[simp] theorem State.xofFinish_x (s : State) : (s.xofFinish).x = s.x := rfl
@[simp] theorem State.xofFinish_ctrl (s : State) : (s.xofFinish).ctrl = s.ctrl := rfl
@[simp] theorem State.xofFinish_status (s : State) : (s.xofFinish).status = s.status := rfl
@[simp] theorem State.xofFinish_errcode (s : State) : (s.xofFinish).errcode = s.errcode := rfl
@[simp] theorem State.xofFinish_errinfo (s : State) : (s.xofFinish).errinfo = s.errinfo := rfl
@[simp] theorem State.xofFinish_flags (s : State) : (s.xofFinish).flags = s.flags := rfl
@[simp] theorem State.xofFinish_vfail (s : State) : (s.xofFinish).vfail = s.vfail := rfl
@[simp] theorem State.xofFinish_pseq (s : State) : (s.xofFinish).pseq = s.pseq := rfl
@[simp] theorem State.xofFinish_params (s : State) : (s.xofFinish).params = s.params := rfl
@[simp] theorem State.xofFinish_xph (s : State) : (s.xofFinish).xph = .squeeze := rfl
@[simp] theorem State.xofFinish_xin (s : State) : (s.xofFinish).xin = s.xin := rfl
@[simp] theorem State.xofFinish_xpos (s : State) : (s.xofFinish).xpos = 0 := rfl
@[simp] theorem State.xofFinish_buf (s : State) : (s.xofFinish).buf = s.buf := rfl
@[simp] theorem State.xofFinish_running (s : State) : (s.xofFinish).running = s.running := rfl
@[simp] theorem State.xofFinish_bufBytes (s : State) : (s.xofFinish).bufBytes = s.bufBytes := rfl
@[simp] theorem State.xofFinish_xofKnown (s : State) : (s.xofFinish).xofKnown = s.xofKnown := rfl
@[simp] theorem State.xofFinish_entropyIn (s : State) : (s.xofFinish).entropyIn = s.entropyIn := rfl
@[simp] theorem State.xofFinish_entropyCount (s : State) : (s.xofFinish).entropyCount = s.entropyCount := rfl
@[simp] theorem State.xofFinish_freeCount (s : State) : (s.xofFinish).freeCount = s.freeCount := rfl
@[simp] theorem State.xofFinish_attempts (s : State) : (s.xofFinish).attempts = s.attempts := rfl
@[simp] theorem State.xofFinish_host (s : State) : (s.xofFinish).host = s.host := rfl
@[simp] theorem State.xofFinish_reply (s : State) : (s.xofFinish).reply = s.reply := rfl

/-! ### setXpos -/

@[simp] theorem State.setXpos_x (s : State) (p : Nat) : (s.setXpos p).x = s.x := rfl
@[simp] theorem State.setXpos_ctrl (s : State) (p : Nat) : (s.setXpos p).ctrl = s.ctrl := rfl
@[simp] theorem State.setXpos_status (s : State) (p : Nat) : (s.setXpos p).status = s.status := rfl
@[simp] theorem State.setXpos_errcode (s : State) (p : Nat) : (s.setXpos p).errcode = s.errcode := rfl
@[simp] theorem State.setXpos_errinfo (s : State) (p : Nat) : (s.setXpos p).errinfo = s.errinfo := rfl
@[simp] theorem State.setXpos_flags (s : State) (p : Nat) : (s.setXpos p).flags = s.flags := rfl
@[simp] theorem State.setXpos_vfail (s : State) (p : Nat) : (s.setXpos p).vfail = s.vfail := rfl
@[simp] theorem State.setXpos_pseq (s : State) (p : Nat) : (s.setXpos p).pseq = s.pseq := rfl
@[simp] theorem State.setXpos_params (s : State) (p : Nat) : (s.setXpos p).params = s.params := rfl
@[simp] theorem State.setXpos_xph (s : State) (p : Nat) : (s.setXpos p).xph = s.xph := rfl
@[simp] theorem State.setXpos_xin (s : State) (p : Nat) : (s.setXpos p).xin = s.xin := rfl
@[simp] theorem State.setXpos_xpos (s : State) (p : Nat) : (s.setXpos p).xpos = p := rfl
@[simp] theorem State.setXpos_buf (s : State) (p : Nat) : (s.setXpos p).buf = s.buf := rfl
@[simp] theorem State.setXpos_running (s : State) (p : Nat) : (s.setXpos p).running = s.running := rfl
@[simp] theorem State.setXpos_bufBytes (s : State) (p : Nat) : (s.setXpos p).bufBytes = s.bufBytes := rfl
@[simp] theorem State.setXpos_xofKnown (s : State) (p : Nat) : (s.setXpos p).xofKnown = s.xofKnown := rfl
@[simp] theorem State.setXpos_entropyIn (s : State) (p : Nat) : (s.setXpos p).entropyIn = s.entropyIn := rfl
@[simp] theorem State.setXpos_entropyCount (s : State) (p : Nat) : (s.setXpos p).entropyCount = s.entropyCount := rfl
@[simp] theorem State.setXpos_freeCount (s : State) (p : Nat) : (s.setXpos p).freeCount = s.freeCount := rfl
@[simp] theorem State.setXpos_attempts (s : State) (p : Nat) : (s.setXpos p).attempts = s.attempts := rfl
@[simp] theorem State.setXpos_host (s : State) (p : Nat) : (s.setXpos p).host = s.host := rfl
@[simp] theorem State.setXpos_reply (s : State) (p : Nat) : (s.setXpos p).reply = s.reply := rfl

/-! ### xofClear -/

@[simp] theorem State.xofClear_x (s : State) : (s.xofClear).x = s.x := rfl
@[simp] theorem State.xofClear_ctrl (s : State) : (s.xofClear).ctrl = s.ctrl := rfl
@[simp] theorem State.xofClear_status (s : State) : (s.xofClear).status = s.status := rfl
@[simp] theorem State.xofClear_errcode (s : State) : (s.xofClear).errcode = s.errcode := rfl
@[simp] theorem State.xofClear_errinfo (s : State) : (s.xofClear).errinfo = s.errinfo := rfl
@[simp] theorem State.xofClear_flags (s : State) : (s.xofClear).flags = s.flags := rfl
@[simp] theorem State.xofClear_vfail (s : State) : (s.xofClear).vfail = s.vfail := rfl
@[simp] theorem State.xofClear_pseq (s : State) : (s.xofClear).pseq = s.pseq := rfl
@[simp] theorem State.xofClear_params (s : State) : (s.xofClear).params = s.params := rfl
@[simp] theorem State.xofClear_xph (s : State) : (s.xofClear).xph = .idle := rfl
@[simp] theorem State.xofClear_xin (s : State) : (s.xofClear).xin = [] := rfl
@[simp] theorem State.xofClear_xpos (s : State) : (s.xofClear).xpos = 0 := rfl
@[simp] theorem State.xofClear_buf (s : State) : (s.xofClear).buf = s.buf := rfl
@[simp] theorem State.xofClear_running (s : State) : (s.xofClear).running = s.running := rfl
@[simp] theorem State.xofClear_bufBytes (s : State) : (s.xofClear).bufBytes = s.bufBytes := rfl
@[simp] theorem State.xofClear_xofKnown (s : State) : (s.xofClear).xofKnown = s.xofKnown := rfl
@[simp] theorem State.xofClear_entropyIn (s : State) : (s.xofClear).entropyIn = s.entropyIn := rfl
@[simp] theorem State.xofClear_entropyCount (s : State) : (s.xofClear).entropyCount = s.entropyCount := rfl
@[simp] theorem State.xofClear_freeCount (s : State) : (s.xofClear).freeCount = s.freeCount := rfl
@[simp] theorem State.xofClear_attempts (s : State) : (s.xofClear).attempts = s.attempts := rfl
@[simp] theorem State.xofClear_host (s : State) : (s.xofClear).host = s.host := rfl
@[simp] theorem State.xofClear_reply (s : State) : (s.xofClear).reply = s.reply := rfl

/-! ### entropyNext -/

@[simp] theorem State.entropyNext_x (s : State) : (s.entropyNext).x = s.x := rfl
@[simp] theorem State.entropyNext_ctrl (s : State) : (s.entropyNext).ctrl = s.ctrl := rfl
@[simp] theorem State.entropyNext_status (s : State) : (s.entropyNext).status = s.status := rfl
@[simp] theorem State.entropyNext_errcode (s : State) : (s.entropyNext).errcode = s.errcode := rfl
@[simp] theorem State.entropyNext_errinfo (s : State) : (s.entropyNext).errinfo = s.errinfo := rfl
@[simp] theorem State.entropyNext_flags (s : State) : (s.entropyNext).flags = s.flags := rfl
@[simp] theorem State.entropyNext_vfail (s : State) : (s.entropyNext).vfail = s.vfail := rfl
@[simp] theorem State.entropyNext_pseq (s : State) : (s.entropyNext).pseq = s.pseq := rfl
@[simp] theorem State.entropyNext_params (s : State) : (s.entropyNext).params = s.params := rfl
@[simp] theorem State.entropyNext_xph (s : State) : (s.entropyNext).xph = s.xph := rfl
@[simp] theorem State.entropyNext_xin (s : State) : (s.entropyNext).xin = s.xin := rfl
@[simp] theorem State.entropyNext_xpos (s : State) : (s.entropyNext).xpos = s.xpos := rfl
@[simp] theorem State.entropyNext_buf (s : State) : (s.entropyNext).buf = s.buf := rfl
@[simp] theorem State.entropyNext_running (s : State) : (s.entropyNext).running = s.running := rfl
@[simp] theorem State.entropyNext_bufBytes (s : State) : (s.entropyNext).bufBytes = s.bufBytes := rfl
@[simp] theorem State.entropyNext_xofKnown (s : State) : (s.entropyNext).xofKnown = s.xofKnown := rfl
@[simp] theorem State.entropyNext_entropyIn (s : State) : (s.entropyNext).entropyIn = s.entropyIn.tail := rfl
@[simp] theorem State.entropyNext_entropyCount (s : State) : (s.entropyNext).entropyCount = s.entropyCount + 1 := rfl
@[simp] theorem State.entropyNext_freeCount (s : State) : (s.entropyNext).freeCount = s.freeCount := rfl
@[simp] theorem State.entropyNext_attempts (s : State) : (s.entropyNext).attempts = s.attempts := rfl
@[simp] theorem State.entropyNext_host (s : State) : (s.entropyNext).host = s.host := rfl
@[simp] theorem State.entropyNext_reply (s : State) : (s.entropyNext).reply = s.reply := rfl

/-! ### complete -/

@[simp] theorem State.complete_x (s : State) : (s.complete).x = s.x := rfl
@[simp] theorem State.complete_ctrl (s : State) : (s.complete).ctrl = s.ctrl := rfl
@[simp] theorem State.complete_status (s : State) : (s.complete).status = setBit s.status 1 true := rfl
@[simp] theorem State.complete_errcode (s : State) : (s.complete).errcode = s.errcode := rfl
@[simp] theorem State.complete_errinfo (s : State) : (s.complete).errinfo = s.errinfo := rfl
@[simp] theorem State.complete_flags (s : State) : (s.complete).flags = s.flags := rfl
@[simp] theorem State.complete_vfail (s : State) : (s.complete).vfail = s.vfail := rfl
@[simp] theorem State.complete_pseq (s : State) : (s.complete).pseq = 0 := rfl
@[simp] theorem State.complete_params (s : State) : (s.complete).params = s.params := rfl
@[simp] theorem State.complete_xph (s : State) : (s.complete).xph = s.xph := rfl
@[simp] theorem State.complete_xin (s : State) : (s.complete).xin = s.xin := rfl
@[simp] theorem State.complete_xpos (s : State) : (s.complete).xpos = s.xpos := rfl
@[simp] theorem State.complete_buf (s : State) : (s.complete).buf = s.buf := rfl
@[simp] theorem State.complete_running (s : State) : (s.complete).running = none := rfl
@[simp] theorem State.complete_bufBytes (s : State) : (s.complete).bufBytes = s.bufBytes := rfl
@[simp] theorem State.complete_xofKnown (s : State) : (s.complete).xofKnown = s.xofKnown := rfl
@[simp] theorem State.complete_entropyIn (s : State) : (s.complete).entropyIn = s.entropyIn := rfl
@[simp] theorem State.complete_entropyCount (s : State) : (s.complete).entropyCount = s.entropyCount := rfl
@[simp] theorem State.complete_freeCount (s : State) : (s.complete).freeCount = s.freeCount := rfl
@[simp] theorem State.complete_attempts (s : State) : (s.complete).attempts = s.attempts := rfl
@[simp] theorem State.complete_host (s : State) : (s.complete).host = s.host := rfl
@[simp] theorem State.complete_reply (s : State) : (s.complete).reply = s.reply := rfl

/-! ### start -/

@[simp] theorem State.start_x (s : State) (w : Word) : (s.start w).x = s.x := rfl
@[simp] theorem State.start_ctrl (s : State) (w : Word) : (s.start w).ctrl = s.ctrl := rfl
@[simp] theorem State.start_status (s : State) (w : Word) : (s.start w).status = s.status := rfl
@[simp] theorem State.start_errcode (s : State) (w : Word) : (s.start w).errcode = s.errcode := rfl
@[simp] theorem State.start_errinfo (s : State) (w : Word) : (s.start w).errinfo = s.errinfo := rfl
@[simp] theorem State.start_flags (s : State) (w : Word) : (s.start w).flags = s.flags := rfl
@[simp] theorem State.start_vfail (s : State) (w : Word) : (s.start w).vfail = s.vfail := rfl
@[simp] theorem State.start_pseq (s : State) (w : Word) : (s.start w).pseq = pseqWord (pseqOp w) 1 := rfl
@[simp] theorem State.start_params (s : State) (w : Word) : (s.start w).params = s.params := rfl
@[simp] theorem State.start_xph (s : State) (w : Word) : (s.start w).xph = s.xph := rfl
@[simp] theorem State.start_xin (s : State) (w : Word) : (s.start w).xin = s.xin := rfl
@[simp] theorem State.start_xpos (s : State) (w : Word) : (s.start w).xpos = s.xpos := rfl
@[simp] theorem State.start_buf (s : State) (w : Word) : (s.start w).buf = s.buf := rfl
@[simp] theorem State.start_running (s : State) (w : Word) : (s.start w).running = some w := rfl
@[simp] theorem State.start_bufBytes (s : State) (w : Word) : (s.start w).bufBytes = s.bufBytes := rfl
@[simp] theorem State.start_xofKnown (s : State) (w : Word) : (s.start w).xofKnown = s.xofKnown := rfl
@[simp] theorem State.start_entropyIn (s : State) (w : Word) : (s.start w).entropyIn = s.entropyIn := rfl
@[simp] theorem State.start_entropyCount (s : State) (w : Word) : (s.start w).entropyCount = s.entropyCount := rfl
@[simp] theorem State.start_freeCount (s : State) (w : Word) : (s.start w).freeCount = s.freeCount := rfl
@[simp] theorem State.start_attempts (s : State) (w : Word) : (s.start w).attempts = s.attempts := rfl
@[simp] theorem State.start_host (s : State) (w : Word) : (s.start w).host = s.host := rfl
@[simp] theorem State.start_reply (s : State) (w : Word) : (s.start w).reply = s.reply := rfl

/-! ### stayBusy -/

@[simp] theorem State.stayBusy_x (s : State) (w : Word) : (s.stayBusy w).x = s.x := rfl
@[simp] theorem State.stayBusy_ctrl (s : State) (w : Word) : (s.stayBusy w).ctrl = s.ctrl := rfl
@[simp] theorem State.stayBusy_status (s : State) (w : Word) : (s.stayBusy w).status = s.status := rfl
@[simp] theorem State.stayBusy_errcode (s : State) (w : Word) : (s.stayBusy w).errcode = s.errcode := rfl
@[simp] theorem State.stayBusy_errinfo (s : State) (w : Word) : (s.stayBusy w).errinfo = s.errinfo := rfl
@[simp] theorem State.stayBusy_flags (s : State) (w : Word) : (s.stayBusy w).flags = s.flags := rfl
@[simp] theorem State.stayBusy_vfail (s : State) (w : Word) : (s.stayBusy w).vfail = s.vfail := rfl
@[simp] theorem State.stayBusy_pseq (s : State) (w : Word) : (s.stayBusy w).pseq = pseqWord (pseqOp w) 1 := rfl
@[simp] theorem State.stayBusy_params (s : State) (w : Word) : (s.stayBusy w).params = s.params := rfl
@[simp] theorem State.stayBusy_xph (s : State) (w : Word) : (s.stayBusy w).xph = s.xph := rfl
@[simp] theorem State.stayBusy_xin (s : State) (w : Word) : (s.stayBusy w).xin = s.xin := rfl
@[simp] theorem State.stayBusy_xpos (s : State) (w : Word) : (s.stayBusy w).xpos = s.xpos := rfl
@[simp] theorem State.stayBusy_buf (s : State) (w : Word) : (s.stayBusy w).buf = s.buf := rfl
@[simp] theorem State.stayBusy_running (s : State) (w : Word) : (s.stayBusy w).running = some w := rfl
@[simp] theorem State.stayBusy_bufBytes (s : State) (w : Word) : (s.stayBusy w).bufBytes = s.bufBytes := rfl
@[simp] theorem State.stayBusy_xofKnown (s : State) (w : Word) : (s.stayBusy w).xofKnown = s.xofKnown := rfl
@[simp] theorem State.stayBusy_entropyIn (s : State) (w : Word) : (s.stayBusy w).entropyIn = s.entropyIn := rfl
@[simp] theorem State.stayBusy_entropyCount (s : State) (w : Word) : (s.stayBusy w).entropyCount = s.entropyCount := rfl
@[simp] theorem State.stayBusy_freeCount (s : State) (w : Word) : (s.stayBusy w).freeCount = s.freeCount := rfl
@[simp] theorem State.stayBusy_attempts (s : State) (w : Word) : (s.stayBusy w).attempts = 2 * s.attempts + 1 := rfl
@[simp] theorem State.stayBusy_host (s : State) (w : Word) : (s.stayBusy w).host = s.host := rfl
@[simp] theorem State.stayBusy_reply (s : State) (w : Word) : (s.stayBusy w).reply = s.reply := rfl

/-! ### clearStatus -/

@[simp] theorem State.clearStatus_x (s : State) (v : Word) : (s.clearStatus v).x = s.x := rfl
@[simp] theorem State.clearStatus_ctrl (s : State) (v : Word) : (s.clearStatus v).ctrl = s.ctrl := rfl
@[simp] theorem State.clearStatus_status (s : State) (v : Word) : (s.clearStatus v).status = s.status &&& ~~~(v &&& 0xE#32) := rfl
@[simp] theorem State.clearStatus_errcode (s : State) (v : Word) : (s.clearStatus v).errcode = if v.getLsbD 2 then 0 else s.errcode := rfl
@[simp] theorem State.clearStatus_errinfo (s : State) (v : Word) : (s.clearStatus v).errinfo = if v.getLsbD 2 then 0 else s.errinfo := rfl
@[simp] theorem State.clearStatus_flags (s : State) (v : Word) : (s.clearStatus v).flags = s.flags := rfl
@[simp] theorem State.clearStatus_vfail (s : State) (v : Word) : (s.clearStatus v).vfail = s.vfail := rfl
@[simp] theorem State.clearStatus_pseq (s : State) (v : Word) : (s.clearStatus v).pseq = s.pseq := rfl
@[simp] theorem State.clearStatus_params (s : State) (v : Word) : (s.clearStatus v).params = s.params := rfl
@[simp] theorem State.clearStatus_xph (s : State) (v : Word) : (s.clearStatus v).xph = s.xph := rfl
@[simp] theorem State.clearStatus_xin (s : State) (v : Word) : (s.clearStatus v).xin = s.xin := rfl
@[simp] theorem State.clearStatus_xpos (s : State) (v : Word) : (s.clearStatus v).xpos = s.xpos := rfl
@[simp] theorem State.clearStatus_buf (s : State) (v : Word) : (s.clearStatus v).buf = s.buf := rfl
@[simp] theorem State.clearStatus_running (s : State) (v : Word) : (s.clearStatus v).running = s.running := rfl
@[simp] theorem State.clearStatus_bufBytes (s : State) (v : Word) : (s.clearStatus v).bufBytes = s.bufBytes := rfl
@[simp] theorem State.clearStatus_xofKnown (s : State) (v : Word) : (s.clearStatus v).xofKnown = s.xofKnown := rfl
@[simp] theorem State.clearStatus_entropyIn (s : State) (v : Word) : (s.clearStatus v).entropyIn = s.entropyIn := rfl
@[simp] theorem State.clearStatus_entropyCount (s : State) (v : Word) : (s.clearStatus v).entropyCount = s.entropyCount := rfl
@[simp] theorem State.clearStatus_freeCount (s : State) (v : Word) : (s.clearStatus v).freeCount = s.freeCount := rfl
@[simp] theorem State.clearStatus_attempts (s : State) (v : Word) : (s.clearStatus v).attempts = s.attempts := rfl
@[simp] theorem State.clearStatus_host (s : State) (v : Word) : (s.clearStatus v).host = s.host := rfl
@[simp] theorem State.clearStatus_reply (s : State) (v : Word) : (s.clearStatus v).reply = s.reply := rfl

/-! ### conclude -/

@[simp] theorem State.conclude_x (s : State) (v : Verdict) : (s.conclude v).x = s.x := rfl
@[simp] theorem State.conclude_ctrl (s : State) (v : Verdict) : (s.conclude v).ctrl = s.ctrl := rfl
@[simp] theorem State.conclude_status (s : State) (v : Verdict) : (s.conclude v).status = s.status := rfl
@[simp] theorem State.conclude_errcode (s : State) (v : Verdict) : (s.conclude v).errcode = s.errcode := rfl
@[simp] theorem State.conclude_errinfo (s : State) (v : Verdict) : (s.conclude v).errinfo = s.errinfo := rfl
@[simp] theorem State.conclude_flags (s : State) (v : Verdict) : (s.conclude v).flags = setBit s.flags 0 v.accepts := rfl
@[simp] theorem State.conclude_vfail (s : State) (v : Verdict) : (s.conclude v).vfail = v.toWord := rfl
@[simp] theorem State.conclude_pseq (s : State) (v : Verdict) : (s.conclude v).pseq = s.pseq := rfl
@[simp] theorem State.conclude_params (s : State) (v : Verdict) : (s.conclude v).params = s.params := rfl
@[simp] theorem State.conclude_xph (s : State) (v : Verdict) : (s.conclude v).xph = .idle := rfl
@[simp] theorem State.conclude_xin (s : State) (v : Verdict) : (s.conclude v).xin = [] := rfl
@[simp] theorem State.conclude_xpos (s : State) (v : Verdict) : (s.conclude v).xpos = 0 := rfl
@[simp] theorem State.conclude_buf (s : State) (v : Verdict) : (s.conclude v).buf = s.buf := rfl
@[simp] theorem State.conclude_running (s : State) (v : Verdict) : (s.conclude v).running = s.running := rfl
@[simp] theorem State.conclude_bufBytes (s : State) (v : Verdict) : (s.conclude v).bufBytes = s.bufBytes := rfl
@[simp] theorem State.conclude_xofKnown (s : State) (v : Verdict) : (s.conclude v).xofKnown = s.xofKnown := rfl
@[simp] theorem State.conclude_entropyIn (s : State) (v : Verdict) : (s.conclude v).entropyIn = s.entropyIn := rfl
@[simp] theorem State.conclude_entropyCount (s : State) (v : Verdict) : (s.conclude v).entropyCount = s.entropyCount := rfl
@[simp] theorem State.conclude_freeCount (s : State) (v : Verdict) : (s.conclude v).freeCount = s.freeCount := rfl
@[simp] theorem State.conclude_attempts (s : State) (v : Verdict) : (s.conclude v).attempts = s.attempts := rfl
@[simp] theorem State.conclude_host (s : State) (v : Verdict) : (s.conclude v).host = s.host := rfl
@[simp] theorem State.conclude_reply (s : State) (v : Verdict) : (s.conclude v).reply = s.reply := rfl

/-! ### takeFault -/

@[simp] theorem State.takeFault_x (s : State) (c : FaultCode) (w : Word) : (s.takeFault c w).x = s.x := by
  unfold State.takeFault; split <;> rfl
@[simp] theorem State.takeFault_ctrl (s : State) (c : FaultCode) (w : Word) : (s.takeFault c w).ctrl = s.ctrl := by
  unfold State.takeFault; split <;> rfl
@[simp] theorem State.takeFault_flags (s : State) (c : FaultCode) (w : Word) : (s.takeFault c w).flags = s.flags := by
  unfold State.takeFault; split <;> rfl
@[simp] theorem State.takeFault_vfail (s : State) (c : FaultCode) (w : Word) : (s.takeFault c w).vfail = s.vfail := by
  unfold State.takeFault; split <;> rfl
@[simp] theorem State.takeFault_params (s : State) (c : FaultCode) (w : Word) : (s.takeFault c w).params = s.params := by
  unfold State.takeFault; split <;> rfl
@[simp] theorem State.takeFault_xph (s : State) (c : FaultCode) (w : Word) : (s.takeFault c w).xph = s.xph := by
  unfold State.takeFault; split <;> rfl
@[simp] theorem State.takeFault_xin (s : State) (c : FaultCode) (w : Word) : (s.takeFault c w).xin = s.xin := by
  unfold State.takeFault; split <;> rfl
@[simp] theorem State.takeFault_xpos (s : State) (c : FaultCode) (w : Word) : (s.takeFault c w).xpos = s.xpos := by
  unfold State.takeFault; split <;> rfl
@[simp] theorem State.takeFault_buf (s : State) (c : FaultCode) (w : Word) : (s.takeFault c w).buf = s.buf := by
  unfold State.takeFault; split <;> rfl
@[simp] theorem State.takeFault_bufBytes (s : State) (c : FaultCode) (w : Word) : (s.takeFault c w).bufBytes = s.bufBytes := by
  unfold State.takeFault; split <;> rfl
@[simp] theorem State.takeFault_xofKnown (s : State) (c : FaultCode) (w : Word) : (s.takeFault c w).xofKnown = s.xofKnown := by
  unfold State.takeFault; split <;> rfl
@[simp] theorem State.takeFault_entropyIn (s : State) (c : FaultCode) (w : Word) : (s.takeFault c w).entropyIn = s.entropyIn := by
  unfold State.takeFault; split <;> rfl
@[simp] theorem State.takeFault_entropyCount (s : State) (c : FaultCode) (w : Word) : (s.takeFault c w).entropyCount = s.entropyCount := by
  unfold State.takeFault; split <;> rfl
@[simp] theorem State.takeFault_freeCount (s : State) (c : FaultCode) (w : Word) : (s.takeFault c w).freeCount = s.freeCount := by
  unfold State.takeFault; split <;> rfl
@[simp] theorem State.takeFault_attempts (s : State) (c : FaultCode) (w : Word) : (s.takeFault c w).attempts = s.attempts := by
  unfold State.takeFault; split <;> rfl
@[simp] theorem State.takeFault_host (s : State) (c : FaultCode) (w : Word) : (s.takeFault c w).host = s.host := by
  unfold State.takeFault; split <;> rfl
@[simp] theorem State.takeFault_reply (s : State) (c : FaultCode) (w : Word) : (s.takeFault c w).reply = s.reply := by
  unfold State.takeFault; split <;> rfl
@[simp] theorem State.takeFault_running (s : State) (c : FaultCode) (w : Word) : (s.takeFault c w).running = none := by
  unfold State.takeFault; split <;> rfl
@[simp] theorem State.takeFault_pseq (s : State) (c : FaultCode) (w : Word) : (s.takeFault c w).pseq = 0 := by
  unfold State.takeFault; split <;> rfl
theorem State.takeFault_status (s : State) (c : FaultCode) (w : Word) :
    (s.takeFault c w).status =
      if s.err then setBit s.status 1 true else setBit (setBit s.status 1 true) 2 true := by
  unfold State.takeFault; split <;> rfl
theorem State.takeFault_errcode (s : State) (c : FaultCode) (w : Word) :
    (s.takeFault c w).errcode = if s.err then s.errcode else c.toWord := by
  unfold State.takeFault; split <;> rfl
theorem State.takeFault_errinfo (s : State) (c : FaultCode) (w : Word) :
    (s.takeFault c w).errinfo = if s.err then s.errinfo else w := by
  unfold State.takeFault; split <;> rfl

/-! ### resetBlock -/

@[simp] theorem State.resetBlock_x (s : State) : s.resetBlock.x = State.reset.x := rfl
@[simp] theorem State.resetBlock_ctrl (s : State) : s.resetBlock.ctrl = State.reset.ctrl := rfl
@[simp] theorem State.resetBlock_status (s : State) : s.resetBlock.status = State.reset.status := rfl
@[simp] theorem State.resetBlock_errcode (s : State) : s.resetBlock.errcode = State.reset.errcode := rfl
@[simp] theorem State.resetBlock_errinfo (s : State) : s.resetBlock.errinfo = State.reset.errinfo := rfl
@[simp] theorem State.resetBlock_flags (s : State) : s.resetBlock.flags = State.reset.flags := rfl
@[simp] theorem State.resetBlock_vfail (s : State) : s.resetBlock.vfail = State.reset.vfail := rfl
@[simp] theorem State.resetBlock_pseq (s : State) : s.resetBlock.pseq = State.reset.pseq := rfl
@[simp] theorem State.resetBlock_params (s : State) : s.resetBlock.params = State.reset.params := rfl
@[simp] theorem State.resetBlock_xph (s : State) : s.resetBlock.xph = State.reset.xph := rfl
@[simp] theorem State.resetBlock_xin (s : State) : s.resetBlock.xin = State.reset.xin := rfl
@[simp] theorem State.resetBlock_xpos (s : State) : s.resetBlock.xpos = State.reset.xpos := rfl
@[simp] theorem State.resetBlock_buf (s : State) : s.resetBlock.buf = State.reset.buf := rfl
@[simp] theorem State.resetBlock_running (s : State) : s.resetBlock.running = State.reset.running := rfl
@[simp] theorem State.resetBlock_bufBytes (s : State) : s.resetBlock.bufBytes = s.bufBytes := rfl
@[simp] theorem State.resetBlock_xofKnown (s : State) : s.resetBlock.xofKnown = s.xofKnown := rfl
@[simp] theorem State.resetBlock_entropyIn (s : State) : s.resetBlock.entropyIn = s.entropyIn := rfl
@[simp] theorem State.resetBlock_entropyCount (s : State) : s.resetBlock.entropyCount = s.entropyCount := rfl
@[simp] theorem State.resetBlock_freeCount (s : State) : s.resetBlock.freeCount = s.freeCount := rfl
@[simp] theorem State.resetBlock_attempts (s : State) : s.resetBlock.attempts = s.attempts := rfl
@[simp] theorem State.resetBlock_host (s : State) : s.resetBlock.host = s.host := rfl
@[simp] theorem State.resetBlock_reply (s : State) : s.resetBlock.reply = s.reply := rfl

end Sys2Proof.Machine
end

