-- ==== Sys2Proof/Laws/Memory.lean ====
section
/-! SUPPORT. The laws of BUF: reading back a write, leaving every other byte alone, and keeping the canonical form. -/

namespace Sys2Proof.Machine

theorem Memory.get_of_below {m : List Host.Cell} {a : Nat} (h : ∀ c ∈ m, a < c.1) : Memory.get m a = 0 := by
  induction m with
  | nil => rfl
  | cons c m ih =>
    have hc := h c (by simp)
    have : c.1 ≠ a := by omega
    simpa [Memory.get, this] using ih fun d hd => h d (by simp [hd])

theorem Memory.get_put_self (m : List Host.Cell) (hm : m.Pairwise fun c d => c.1 < d.1) (a : Nat) (b : Byte) :
    Memory.get (Memory.put m a b) a = b := by
  induction m with
  | nil =>
    unfold Memory.put
    split
    · exact Eq.symm ‹_›
    · simp [Memory.get]
  | cons c m ih =>
    obtain ⟨k, v⟩ := c
    have hk := List.pairwise_cons.mp hm
    unfold Memory.put
    split
    · split
      · have : k ≠ a := by omega
        have h0 : Memory.get m a = 0 := Memory.get_of_below fun d hd => Nat.lt_trans ‹_› (hk.1 d hd)
        simpa [Memory.get, this, h0] using Eq.symm ‹_›
      · simp [Memory.get]
    · split
      · subst_vars
        split
        · rw [Memory.get_of_below fun d hd => hk.1 d hd]; exact Eq.symm ‹_›
        · simp [Memory.get]
      · have : k ≠ a := fun e => ‹¬a = k› e.symm
        simp [Memory.get, this, ih hk.2]

theorem Memory.get_put_of_ne (m : List Host.Cell) {a x : Nat} (b : Byte) (hx : x ≠ a) :
    Memory.get (Memory.put m a b) x = Memory.get m x := by
  have ha : a ≠ x := hx.symm
  induction m with
  | nil => unfold Memory.put; split <;> simp [Memory.get, ha]
  | cons c m ih =>
    obtain ⟨k, v⟩ := c
    unfold Memory.put
    split
    · split <;> simp [Memory.get, ha]
    · split
      · subst_vars; split <;> simp [Memory.get, ha]
      · by_cases h3 : k = x <;> simp [Memory.get, h3, ih]

theorem Memory.mem_put {m : List Host.Cell} {a : Nat} {b : Byte} {c : Host.Cell} (h : c ∈ Memory.put m a b) :
    c ∈ m ∨ (c = (a, b) ∧ b ≠ 0) := by
  induction m with
  | nil =>
    unfold Memory.put at h
    split at h
    · exact absurd h List.not_mem_nil
    · exact .inr ⟨List.mem_singleton.mp h, ‹_›⟩
  | cons d m ih =>
    obtain ⟨k, v⟩ := d
    unfold Memory.put at h
    split at h
    · split at h
      · exact .inl h
      · rcases List.mem_cons.mp h with h | h
        · exact .inr ⟨h, ‹_›⟩
        · exact .inl h
    · split at h
      · split at h
        · exact .inl (List.mem_cons_of_mem _ h)
        · rcases List.mem_cons.mp h with h | h
          · exact .inr ⟨h, ‹_›⟩
          · exact .inl (List.mem_cons_of_mem _ h)
      · rcases List.mem_cons.mp h with h | h
        · exact .inl (h ▸ List.mem_cons_self)
        · exact (ih h).imp_left (List.mem_cons_of_mem _)

theorem Memory.put_wf {m : List Host.Cell} (h : Memory.wf m) (a : Nat) (b : Byte) : Memory.wf (Memory.put m a b) := by
  refine ⟨?_, fun c hc => ?_⟩
  · have hm := h.1
    clear h
    induction m with
    | nil => unfold Memory.put; split <;> simp
    | cons d m ih =>
      obtain ⟨k, v⟩ := d
      have hk := List.pairwise_cons.mp hm
      unfold Memory.put
      split
      · split
        · exact hm
        · refine List.pairwise_cons.mpr ⟨fun e he => ?_, hm⟩
          rcases List.mem_cons.mp he with rfl | he
          · assumption
          · exact Nat.lt_trans ‹_› (hk.1 e he)
      · split
        · split
          · exact hk.2
          · subst_vars; exact List.pairwise_cons.mpr ⟨hk.1, hk.2⟩
        · refine List.pairwise_cons.mpr ⟨fun e he => ?_, ih hk.2⟩
          rcases Memory.mem_put he with he | ⟨rfl, -⟩
          · exact hk.1 e he
          · simp; omega
  · rcases Memory.mem_put hc with hc | ⟨rfl, hb⟩
    · exact h.2 c hc
    · exact hb

theorem Memory.write_wf {m : List Host.Cell} (h : Memory.wf m) (a : Nat) (bs : Bytes) : Memory.wf (Memory.write m a bs) := by
  induction bs generalizing m a with
  | nil => exact h
  | cons b bs ih => exact ih (Memory.put_wf h a b) (a + 1)

theorem Memory.get_write_outside (m : List Host.Cell) {a x : Nat} (bs : Bytes) (hx : x < a ∨ a + bs.length ≤ x) :
    Memory.get (Memory.write m a bs) x = Memory.get m x := by
  induction bs generalizing m a with
  | nil => rfl
  | cons b bs ih =>
    rw [List.length_cons] at hx
    rw [Memory.write, ih _ (by omega), Memory.get_put_of_ne _ _ (by omega)]

theorem Memory.get_write_inside {m : List Host.Cell} (hm : Memory.wf m) (a : Nat) (bs : Bytes) {j : Nat}
    (hj : j < bs.length) : Memory.get (Memory.write m a bs) (a + j) = bs[j] := by
  induction bs generalizing m a j with
  | nil => cases hj
  | cons b bs ih =>
    cases j with
    | zero =>
      rw [Memory.write, Memory.get_write_outside _ _ (by omega)]
      simpa using Memory.get_put_self m hm.1 a b
    | succ j =>
      rw [Memory.write, show a + (j + 1) = a + 1 + j by omega]
      simpa using ih (Memory.put_wf hm a b) (a + 1) (Nat.lt_of_succ_lt_succ hj)

/-- Where a listed byte of a written memory comes from. -/
theorem Memory.mem_write {m : List Host.Cell} {a : Nat} {bs : Bytes} {c : Host.Cell} (h : c ∈ Memory.write m a bs) :
    c ∈ m ∨ (a ≤ c.1 ∧ c.1 < a + bs.length) := by
  induction bs generalizing m a with
  | nil => exact .inl h
  | cons b bs ih =>
    rw [List.length_cons]
    rcases ih h with h | h
    · rcases Memory.mem_put h with h | ⟨rfl, -⟩
      · exact .inl h
      · right; simp
    · right; omega

theorem Memory.reset_wf : Memory.wf State.reset.buf := ⟨List.Pairwise.nil, fun _ h => absurd h List.not_mem_nil⟩

/-- Two canonical memories that read the same everywhere are the same data. -/
theorem Memory.wf_ext {m n : List Host.Cell} (hm : Memory.wf m) (hn : Memory.wf n)
    (h : ∀ a, Memory.get m a = Memory.get n a) : m = n := by
  induction m generalizing n with
  | nil =>
    cases n with
    | nil => rfl
    | cons d n => exact absurd (by simpa [Memory.get] using (h d.1).symm) (hn.2 d (by simp))
  | cons c m ih =>
    cases n with
    | nil => exact absurd (by simpa [Memory.get] using h c.1) (hm.2 c (by simp))
    | cons d n =>
      have hc := List.pairwise_cons.mp hm.1
      have hd := List.pairwise_cons.mp hn.1
      have hcv := hm.2 c (by simp)
      have hdv := hn.2 d (by simp)
      have key : c.1 = d.1 := by
        rcases Nat.lt_trichotomy c.1 d.1 with hlt | heq | hlt
        · refine absurd ?_ hcv
          have e := h c.1
          rw [Memory.get_of_below (m := d :: n) fun e he => ?_] at e
          · simpa [Memory.get] using e
          · rcases List.mem_cons.mp he with rfl | he
            · exact hlt
            · exact Nat.lt_trans hlt (hd.1 e he)
        · exact heq
        · refine absurd ?_ hdv
          have e := h d.1
          rw [Memory.get_of_below (m := c :: m) fun e he => ?_] at e
          · simpa [Memory.get] using e.symm
          · rcases List.mem_cons.mp he with rfl | he
            · exact hlt
            · exact Nat.lt_trans hlt (hc.1 e he)
      have hv : c.2 = d.2 := by simpa [Memory.get, key] using h c.1
      have hcd : c = d := Prod.ext key hv
      subst hcd
      refine congrArg (c :: ·) (ih ⟨hc.2, fun e he => hm.2 e (by simp [he])⟩ ⟨hd.2, fun e he => hn.2 e (by simp [he])⟩
        fun a => ?_)
      by_cases ha : c.1 = a
      · subst ha; rw [Memory.get_of_below hc.1, Memory.get_of_below hd.1]
      · simpa [Memory.get, ha] using h a

@[simp] theorem Memory.read_length (m : List Host.Cell) (a n : Nat) : (Memory.read m a n).length = n := by
  simp [Memory.read]

@[simp] theorem Memory.elems_length (m : List Host.Cell) (a n : Nat) : (Memory.elems m a n).length = n := by
  simp [Memory.elems]

@[simp] theorem State.readBytes_length (s : State) (a n : Nat) : (s.readBytes a n).length = n := Memory.read_length ..

@[simp] theorem State.readElems_length (s : State) (a n : Nat) : (s.readElems a n).length = n := Memory.elems_length ..

@[simp] theorem elemBytes_length (vs : List Nat) : (elemBytes vs).length = 2 * vs.length := by
  induction vs with
  | nil => rfl
  | cons v vs ih =>
    have : elemBytes (v :: vs) = le16 v ++ elemBytes vs := rfl
    rw [this, List.length_append, ih, List.length_cons]
    simp [le16]; omega

theorem elemBytes_getElem (vs : List Nat) {j : Nat} (hj : j < vs.length) :
    (elemBytes vs)[2 * j]'(by simp; omega) = BitVec.ofNat 8 vs[j] ∧
    (elemBytes vs)[2 * j + 1]'(by simp; omega) = BitVec.ofNat 8 (vs[j] / 256) := by
  induction vs generalizing j with
  | nil => cases hj
  | cons v vs ih =>
    have hcons : elemBytes (v :: vs) = BitVec.ofNat 8 v :: BitVec.ofNat 8 (v / 256) :: elemBytes vs := rfl
    cases j with
    | zero => simp [hcons]
    | succ j =>
      have := ih (Nat.lt_of_succ_lt_succ hj)
      simpa [hcons, Nat.mul_add] using this

/-- Reading back element j of an element vector just written (00_scope R15, 20_memory R100). -/
theorem Memory.elem_write {m : List Host.Cell} (hm : Memory.wf m) (a : Nat) (vs : List Nat) {j : Nat}
    (hj : j < vs.length) (hv : vs[j] < 65536) : Memory.elem (Memory.write m a (elemBytes vs)) a j = vs[j] := by
  have h := elemBytes_getElem vs hj
  unfold Memory.elem
  rw [Memory.get_write_inside hm a _ (by simp; omega), Nat.add_assoc,
    Memory.get_write_inside hm a _ (by simp; omega), h.1, h.2]
  simp only [BitVec.toNat_ofNat]
  omega

theorem State.byteAt_writeBytes_outside (s : State) {a x : Nat} (bs : Bytes) (hx : x < a ∨ a + bs.length ≤ x) :
    (s.writeBytes a bs).byteAt x = s.byteAt x := Memory.get_write_outside _ _ hx

theorem State.byteAt_writeBytes_inside {s : State} (h : Memory.wf s.buf) (a : Nat) (bs : Bytes) {j : Nat}
    (hj : j < bs.length) : (s.writeBytes a bs).byteAt (a + j) = bs[j] := Memory.get_write_inside h a bs hj

end Sys2Proof.Machine
end

