-- ==== Sys2Proof/Laws/Ops.lean ====
section
/-! SUPPORT. What the shared frame of every command can do, said once, and the shape every meaning has. -/

namespace Sys2Proof.Machine

@[simp] theorem State.getX_setX_self (s : State) (r : Reg) (v : Nat) : (s.setX r v).getX r = BitVec.ofNat 32 v := by
  simp [State.getX, State.setX]

theorem State.getX_setX_of_ne (s : State) {r q : Reg} (v : Nat) (h : q ≠ r) : (s.setX r v).getX q = s.getX q := by
  have : r.toNat ≠ q.toNat := fun e => h (BitVec.eq_of_toNat_eq e.symm)
  simp [State.getX, State.setX, this]

theorem State.val_setX_self (s : State) (r : Reg) {v : Nat} (h : v < 2 ^ 32) : (s.setX r v).val r = v := by
  simp only [State.val, State.getX_setX_self, BitVec.toNat_ofNat]
  exact Nat.mod_eq_of_lt h

theorem State.val_lt (s : State) (r : Reg) : s.val r < 2 ^ 32 := (s.getX r).isLt

/-! ### The bits of a status word -/

theorem setBit_getLsbD (w : Word) (k j : Nat) (b : Bool) :
    (setBit w k b).getLsbD j = if j = k ∧ k < 32 then b else w.getLsbD j := by
  by_cases hj : j < 32
  · cases b <;> by_cases hk : j = k
    · subst hk; simp [setBit, hj]
    · simp [setBit, hk]; omega
    · subst hk; simp [setBit, hj]
    · simp [setBit, hk]; omega
  · have h1 : w.getLsbD j = false := BitVec.getLsbD_of_ge _ _ (by omega)
    have h2 : (setBit w k b).getLsbD j = false := BitVec.getLsbD_of_ge _ _ (by omega)
    rw [h1, h2]
    split
    · omega
    · rfl

theorem State.complete_done (s : State) : s.complete.done = true := by
  show (setBit s.status 1 true).getLsbD 1 = true
  rw [setBit_getLsbD]; rfl

theorem State.complete_err (s : State) : s.complete.err = s.err := by
  show (setBit s.status 1 true).getLsbD 2 = s.status.getLsbD 2
  rw [setBit_getLsbD]; rfl

theorem State.complete_ovr (s : State) : s.complete.ovr = s.ovr := by
  show (setBit s.status 1 true).getLsbD 3 = s.status.getLsbD 3
  rw [setBit_getLsbD]; rfl

theorem State.takeFault_done (s : State) (c : FaultCode) (w : Word) : (s.takeFault c w).done = true := by
  unfold State.takeFault State.done
  split
  · exact State.complete_done s
  · show (setBit (setBit s.status 1 true) 2 true).getLsbD 1 = true
    rw [setBit_getLsbD, setBit_getLsbD]; rfl

theorem State.takeFault_err (s : State) (c : FaultCode) (w : Word) : (s.takeFault c w).err = true := by
  unfold State.takeFault
  split
  · rw [State.complete_err]; assumption
  · show (setBit (setBit s.status 1 true) 2 true).getLsbD 2 = true
    rw [setBit_getLsbD]; rfl

theorem State.takeFault_ovr (s : State) (c : FaultCode) (w : Word) : (s.takeFault c w).ovr = s.ovr := by
  unfold State.takeFault
  split
  · exact State.complete_ovr s
  · show (setBit (setBit s.status 1 true) 2 true).getLsbD 3 = s.status.getLsbD 3
    rw [setBit_getLsbD, setBit_getLsbD]; rfl

/-- The bounds a valid parameter set meets (10_state R67). -/
theorem Params.valid_inBounds {p : Params} (h : p.valid = true) : p.InBounds := by
  simp only [Params.valid, Bool.and_eq_true, decide_eq_true_eq] at h
  exact h.1

/-- The order of g is exactly Z (10_state R67). -/
theorem Params.valid_order {p : Params} (h : p.valid = true) :
    p.G ^ p.Z % p.Q = 1 ∧ ∀ j, 0 < j → j < p.Z → p.G ^ j % p.Q ≠ 1 := by
  simp only [Params.valid, Params.orderOk, Bool.and_eq_true, decide_eq_true_eq, beq_iff_eq, List.all_eq_true,
    List.mem_range, Bool.or_eq_true, bne_iff_ne, ne_eq] at h
  refine ⟨h.2.1, fun j hj hz => ?_⟩
  rcases h.2.2 j hz with h0 | h0
  · omega
  · exact h0

/-! ### The tests of a command -/

@[simp] theorem firstFault_nil : firstFault [] = none := rfl

theorem firstFault_cons_true (c : FaultCode) {b : Bool} (rest : List Check) (h : b = true) :
    firstFault ((c, b) :: rest) = firstFault rest := by simp [firstFault, h]

theorem firstFault_cons_false (c : FaultCode) {b : Bool} (rest : List Check) (h : b = false) :
    firstFault ((c, b) :: rest) = some c := by simp [firstFault, h]

/-- A command whose tests fail faults with the first failing one. -/
theorem runCommand_fault (i : Instr) (s : State) {checks : List Check} (r : Result) {c : FaultCode}
    (h : firstFault checks = some c) : runCommand i s checks r = .next (s.takeFault c (encode i)) := by
  simp [runCommand, h]

/-- A command whose tests pass has its effect and completes. -/
theorem runCommand_effect (i : Instr) (s : State) {checks : List Check} (t : State) (h : firstFault checks = none) :
    runCommand i s checks (.effect t) = .next t.complete := by simp [runCommand, h]

/-- Everything a command can do. -/
theorem runCommand_cases {i : Instr} {s t : State} {checks : List Check} {r : Result}
    (h : runCommand i s checks r = .next t) :
    (∃ c, firstFault checks = some c ∧ t = s.takeFault c (encode i)) ∨
    (firstFault checks = none ∧
      ((∃ u, r = .effect u ∧ t = u.complete) ∨ (∃ c u, r = .late c u ∧ t = u.takeFault c (encode i)) ∨
        (r = .pending ∧ t = s.stayBusy (encode i)))) := by
  unfold runCommand at h
  split at h
  · injection h with h; exact .inl ⟨_, ‹_›, h.symm⟩
  · split at h <;> injection h with h
    · exact .inr ⟨‹_›, .inl ⟨_, rfl, h.symm⟩⟩
    · exact .inr ⟨‹_›, .inr (.inl ⟨_, _, rfl, h.symm⟩)⟩
    · exact .inr ⟨‹_›, .inr (.inr ⟨rfl, h.symm⟩)⟩

/-- A command always answers a next state. -/
theorem runCommand_next (i : Instr) (s : State) (checks : List Check) (r : Result) :
    ∃ t, runCommand i s checks r = .next t := by
  unfold runCommand
  split
  · exact ⟨_, rfl⟩
  · split <;> exact ⟨_, rfl⟩

/-! ### The shape of every meaning -/

/-- An effect leaves alone what no command writes before it ends, and keeps BUF canonical. -/
structure EffectShape (s u : State) : Prop where
  ctrl : u.ctrl = s.ctrl
  status : u.status = s.status
  errcode : u.errcode = s.errcode
  errinfo : u.errinfo = s.errinfo
  params : u.params = s.params
  running : u.running = s.running
  pseq : u.pseq = s.pseq
  bufBytes : u.bufBytes = s.bufBytes
  xofKnown : u.xofKnown = s.xofKnown
  freeCount : u.freeCount = s.freeCount
  attempts : u.attempts = s.attempts
  host : u.host = s.host
  reply : u.reply = s.reply
  wf : Memory.wf s.buf → Memory.wf u.buf

/-- A result whose effect has that shape, or a late fault after one or two entropy requests. -/
def ResultShape (s : State) : Result → Prop
  | .effect u => EffectShape s u
  | .late c u => (c = .entropy ∨ c = .bound) ∧ (u = s.entropyNext ∨ u = s.entropyNext.entropyNext)
  | .pending => True

theorem EffectShape.refl (s : State) : EffectShape s s := by constructor <;> first | rfl | exact id

/-- A meaning runs in the shared frame, with a result of that shape. -/
def Shaped (i : Instr) (s : State) (o : Host.Outcome State Fault Refusal) : Prop :=
  ∃ checks r, o = runCommand i s checks r ∧ ResultShape s r

end Sys2Proof.Machine
end

