-- ==== Sys2Proof/Laws/Port.lean ====
section
/-! SUPPORT. What a write of REG can do, while a command runs and while none does (10_state R77; 20_memory R104). -/

namespace Sys2Proof.Machine

/-- A write while a command runs is ignored, dropped with OVR set, or honoured. -/
theorem State.regWriteBusy_cases (s : State) (off : Nat) (v : Word) :
    s.regWriteBusy off v = s ∨ s.regWriteBusy off v = s.setOvr ∨ s.regWriteBusy off v = s.ctrlWrite v ∨
      s.regWriteBusy off v = s.clearStatus v := by
  unfold State.regWriteBusy; repeat' split
  all_goals simp

/-- A write of CMD, of a general register or of a parameter register while a command runs sets OVR. -/
theorem State.regWriteBusy_dropped (s : State) {off : Nat} (v : Word) (aligned : off % 4 = 0)
    (listed : off = 0x010 ∨ (0x040 ≤ off ∧ off < 0x0BC)) : s.regWriteBusy off v = s.setOvr := by
  unfold State.regWriteBusy
  rw [if_neg (by omega), if_neg (by omega), if_neg (by omega), if_pos listed]

/-- A write at any other offset but those of CTRL and STATUS is ignored, whether a command runs or not. -/
theorem State.regWrite_ignored (s : State) {off : Nat} (v : Word)
    (h : off % 4 ≠ 0 ∨ (off ≠ 0x000 ∧ off ≠ 0x004 ∧ off ≠ 0x010 ∧ ¬(0x040 ≤ off ∧ off < 0x0BC))) :
    s.access (.regWrite off v) = s := by
  have key : s.regWriteBusy off v = s ∧ s.regWriteIdle off v = s := by
    unfold State.regWriteBusy State.regWriteIdle
    rcases h with h | h
    · simp [h]
    · constructor <;> repeat' split
      all_goals first | rfl | omega
  simp only [State.access, key.1, key.2, ite_self]

end Sys2Proof.Machine
end

