-- ==== Sys2Proof/Laws/Sampler.lean ====
section
/-! SUPPORT. The bounded draw of the model and the draw of the rule agree: a bounded draw that ends is a draw. -/

namespace Sys2Proof.Machine

/-- A bounded draw that ends gives what `Draw(m)` gives (43_xof R260). -/
theorem draw_drawsTo {S : Nat → Byte} {m v : Nat} {e : Sampler} :
    ∀ {tries : Nat} {d : Sampler}, draw S m tries d = some (v, e) → DrawsTo S m d v e
  | 0, _, h => by simp [draw] at h
  | tries + 1, d, h => by
    simp only [draw] at h
    split at h
    · obtain ⟨rfl, rfl⟩ := Prod.mk.injEq .. ▸ Option.some.inj h
      exact .accept d ‹_›
    · exact .reject d v e ‹_› (draw_drawsTo h)

/-- Bounded draws that all end give what the draws in turn give (43_xof R261). -/
theorem drawMany_drawsAll {S : Nat → Byte} {tries : Nat} :
    ∀ {ms : List Nat} {d : Sampler} {vs : List Nat} {f : Sampler}, drawMany S tries ms d = some (vs, f) →
      DrawsAll S ms d vs f
  | [], d, vs, f, h => by
    obtain ⟨rfl, rfl⟩ := Prod.mk.injEq .. ▸ Option.some.inj h
    exact .nil _
  | m :: ms, d, vs, f, h => by
    simp only [drawMany] at h
    split at h
    · cases h
    · split at h
      · cases h
      · obtain ⟨rfl, rfl⟩ := Prod.mk.injEq .. ▸ Option.some.inj h
        exact .cons _ _ _ _ _ _ _ (draw_drawsTo ‹_›) (drawMany_drawsAll ‹_›)

end Sys2Proof.Machine
end

