-- ==== Sys2Proof/Laws/Shape.lean ====
section
/-! SUPPORT. Every meaning runs in the shared frame: one lemma per command, and the lemma for all of them. -/

namespace Sys2Proof.Machine

theorem execNop_shape (s : State) : Shaped .nop s (execNop s) := by
  simp only [Shaped, execNop]
  refine ⟨_, _, rfl, ?_⟩
  constructor <;> first | rfl | exact fun h => h

theorem execMovi_shape (a : Reg) (imm : Imm16) (s : State) : Shaped (.movi a imm) s (execMovi a imm s) := by
  simp only [Shaped, execMovi]
  refine ⟨_, _, rfl, ?_⟩
  constructor <;> first | rfl | exact fun h => h

theorem execMovhi_shape (a : Reg) (imm : Imm16) (s : State) : Shaped (.movhi a imm) s (execMovhi a imm s) := by
  simp only [Shaped, execMovhi]
  refine ⟨_, _, rfl, ?_⟩
  constructor <;> first | rfl | exact fun h => h

theorem execFqadd_shape (a : Reg) (b : Reg) (c : Reg) (s : State) : Shaped (.fqadd a b c) s (execFqadd a b c s) := by
  simp only [Shaped, execFqadd, scalarBinary]
  refine ⟨_, _, rfl, ?_⟩
  constructor <;> first | rfl | exact fun h => h

theorem execFqsub_shape (a : Reg) (b : Reg) (c : Reg) (s : State) : Shaped (.fqsub a b c) s (execFqsub a b c s) := by
  simp only [Shaped, execFqsub, scalarBinary]
  refine ⟨_, _, rfl, ?_⟩
  constructor <;> first | rfl | exact fun h => h

theorem execFqmul_shape (a : Reg) (b : Reg) (c : Reg) (s : State) : Shaped (.fqmul a b c) s (execFqmul a b c s) := by
  simp only [Shaped, execFqmul, scalarBinary]
  refine ⟨_, _, rfl, ?_⟩
  constructor <;> first | rfl | exact fun h => h

theorem execFqnorm_shape (a : Reg) (b : Reg) (s : State) : Shaped (.fqnorm a b) s (execFqnorm a b s) := by
  simp only [Shaped, execFqnorm, scalarUnary]
  refine ⟨_, _, rfl, ?_⟩
  constructor <;> first | rfl | exact fun h => h

theorem execFqinv_shape (a : Reg) (b : Reg) (s : State) : Shaped (.fqinv a b) s (execFqinv a b s) := by
  simp only [Shaped, execFqinv, scalarInverse]
  refine ⟨_, _, rfl, ?_⟩
  constructor <;> first | rfl | exact fun h => h

theorem execR2f_shape (a : Reg) (b : Reg) (s : State) : Shaped (.r2f a b) s (execR2f a b s) := by
  simp only [Shaped, execR2f, scalarUnary]
  refine ⟨_, _, rfl, ?_⟩
  constructor <;> first | rfl | exact fun h => h

theorem execIngrp_shape (a : Reg) (b : Reg) (s : State) : Shaped (.ingrp a b) s (execIngrp a b s) := by
  simp only [Shaped, execIngrp]
  refine ⟨_, _, rfl, ?_⟩
  constructor <;> first | rfl | exact fun h => h

theorem execF2r_shape (a : Reg) (b : Reg) (s : State) : Shaped (.f2r a b) s (execF2r a b s) := by
  simp only [Shaped, execF2r]
  refine ⟨_, _, rfl, ?_⟩
  constructor <;> first | rfl | exact fun h => h

theorem execFzadd_shape (a : Reg) (b : Reg) (c : Reg) (s : State) : Shaped (.fzadd a b c) s (execFzadd a b c s) := by
  simp only [Shaped, execFzadd, scalarBinary]
  refine ⟨_, _, rfl, ?_⟩
  constructor <;> first | rfl | exact fun h => h

theorem execFzsub_shape (a : Reg) (b : Reg) (c : Reg) (s : State) : Shaped (.fzsub a b c) s (execFzsub a b c s) := by
  simp only [Shaped, execFzsub, scalarBinary]
  refine ⟨_, _, rfl, ?_⟩
  constructor <;> first | rfl | exact fun h => h

theorem execFzmul_shape (a : Reg) (b : Reg) (c : Reg) (s : State) : Shaped (.fzmul a b c) s (execFzmul a b c s) := by
  simp only [Shaped, execFzmul, scalarBinary]
  refine ⟨_, _, rfl, ?_⟩
  constructor <;> first | rfl | exact fun h => h

theorem execFznorm_shape (a : Reg) (b : Reg) (s : State) : Shaped (.fznorm a b) s (execFznorm a b s) := by
  simp only [Shaped, execFznorm, scalarUnary]
  refine ⟨_, _, rfl, ?_⟩
  constructor <;> first | rfl | exact fun h => h

theorem execFzinv_shape (a : Reg) (b : Reg) (s : State) : Shaped (.fzinv a b) s (execFzinv a b s) := by
  simp only [Shaped, execFzinv, scalarInverse]
  refine ⟨_, _, rfl, ?_⟩
  constructor <;> first | rfl | exact fun h => h

theorem execVqadd_shape (a : Reg) (b : Reg) (c : Reg) (d : Reg) (s : State) : Shaped (.vqadd a b c d) s (execVqadd a b c d s) := by
  simp only [Shaped, execVqadd, vectorBinary]
  refine ⟨_, _, rfl, ?_⟩
  constructor <;> first | rfl | exact fun h => Memory.write_wf h _ _

theorem execVqsub_shape (a : Reg) (b : Reg) (c : Reg) (d : Reg) (s : State) : Shaped (.vqsub a b c d) s (execVqsub a b c d s) := by
  simp only [Shaped, execVqsub, vectorBinary]
  refine ⟨_, _, rfl, ?_⟩
  constructor <;> first | rfl | exact fun h => Memory.write_wf h _ _

theorem execVqmul_shape (a : Reg) (b : Reg) (c : Reg) (d : Reg) (s : State) : Shaped (.vqmul a b c d) s (execVqmul a b c d s) := by
  simp only [Shaped, execVqmul, vectorBinary]
  refine ⟨_, _, rfl, ?_⟩
  constructor <;> first | rfl | exact fun h => Memory.write_wf h _ _

theorem execVqnorm_shape (a : Reg) (b : Reg) (d : Reg) (s : State) : Shaped (.vqnorm a b d) s (execVqnorm a b d s) := by
  simp only [Shaped, execVqnorm, vectorUnary]
  refine ⟨_, _, rfl, ?_⟩
  constructor <;> first | rfl | exact fun h => Memory.write_wf h _ _

theorem execVqsca_shape (a : Reg) (b : Reg) (c : Reg) (d : Reg) (e : Reg) (s : State) : Shaped (.vqsca a b c d e) s (execVqsca a b c d e s) := by
  simp only [Shaped, execVqsca]
  refine ⟨_, _, rfl, ?_⟩
  constructor <;> first | rfl | exact fun h => Memory.write_wf h _ _

theorem execVr2f_shape (a : Reg) (b : Reg) (d : Reg) (s : State) : Shaped (.vr2f a b d) s (execVr2f a b d s) := by
  simp only [Shaped, execVr2f, vectorUnary]
  refine ⟨_, _, rfl, ?_⟩
  constructor <;> first | rfl | exact fun h => Memory.write_wf h _ _

theorem execVingrp_shape (a : Reg) (b : Reg) (d : Reg) (s : State) : Shaped (.vingrp a b d) s (execVingrp a b d s) := by
  simp only [Shaped, execVingrp]
  refine ⟨_, _, rfl, ?_⟩
  constructor <;> first | rfl | exact fun h => h

theorem execVf2r_shape (a : Reg) (b : Reg) (d : Reg) (s : State) : Shaped (.vf2r a b d) s (execVf2r a b d s) := by
  simp only [Shaped, execVf2r]
  refine ⟨_, _, rfl, ?_⟩
  constructor <;> first | rfl | exact fun h => Memory.write_wf h _ _

theorem execVzsub_shape (a : Reg) (b : Reg) (c : Reg) (d : Reg) (s : State) : Shaped (.vzsub a b c d) s (execVzsub a b c d s) := by
  simp only [Shaped, execVzsub, vectorBinary]
  refine ⟨_, _, rfl, ?_⟩
  constructor <;> first | rfl | exact fun h => Memory.write_wf h _ _

theorem execVznorm_shape (a : Reg) (b : Reg) (d : Reg) (s : State) : Shaped (.vznorm a b d) s (execVznorm a b d s) := by
  simp only [Shaped, execVznorm, vectorUnary]
  refine ⟨_, _, rfl, ?_⟩
  constructor <;> first | rfl | exact fun h => Memory.write_wf h _ _

theorem execSynq_shape (a : Reg) (b : Reg) (c : Reg) (s : State) : Shaped (.synq a b c) s (execSynq a b c s) := by
  simp only [Shaped, execSynq]
  refine ⟨_, _, rfl, ?_⟩
  constructor <;> first | rfl | exact fun h => Memory.write_wf h _ _

theorem execSynr_shape (a : Reg) (b : Reg) (c : Reg) (s : State) : Shaped (.synr a b c) s (execSynr a b c s) := by
  simp only [Shaped, execSynr]
  refine ⟨_, _, rfl, ?_⟩
  constructor <;> first | rfl | exact fun h => Memory.write_wf h _ _

theorem execExpz_shape (a : Reg) (b : Reg) (c : Reg) (s : State) : Shaped (.expz a b c) s (execExpz a b c s) := by
  simp only [Shaped, execExpz]
  refine ⟨_, _, rfl, ?_⟩
  constructor <;> first | rfl | exact fun h => Memory.write_wf h _ _

theorem execXinit_shape (s : State) : Shaped .xinit s (execXinit s) := by
  simp only [Shaped, execXinit]
  refine ⟨_, _, rfl, ?_⟩
  constructor <;> first | rfl | exact fun h => h

theorem execXabs_shape (b : Reg) (c : Reg) (s : State) : Shaped (.xabs b c) s (execXabs b c s) := by
  simp only [Shaped, execXabs]
  refine ⟨_, _, rfl, ?_⟩
  constructor <;> first | rfl | exact fun h => h

theorem execXabsi_shape (imm : Imm16) (s : State) : Shaped (.xabsi imm) s (execXabsi imm s) := by
  simp only [Shaped, execXabsi]
  refine ⟨_, _, rfl, ?_⟩
  constructor <;> first | rfl | exact fun h => h

theorem execXfin_shape (s : State) : Shaped .xfin s (execXfin s) := by
  simp only [Shaped, execXfin]
  refine ⟨_, _, rfl, ?_⟩
  constructor <;> first | rfl | exact fun h => h

theorem execXsqz_shape (a : Reg) (b : Reg) (s : State) : Shaped (.xsqz a b) s (execXsqz a b s) := by
  simp only [Shaped, execXsqz]
  refine ⟨_, _, rfl, ?_⟩
  constructor <;> first | rfl | exact fun h => Memory.write_wf h _ _

theorem execHash_shape (a : Reg) (b : Reg) (c : Reg) (s : State) : Shaped (.hash a b c) s (execHash a b c s) := by
  simp only [Shaped, execHash]
  refine ⟨_, _, rfl, ?_⟩
  constructor <;> first | rfl | exact fun h => Memory.write_wf h _ _

theorem execSmpq_shape (a : Reg) (d : Reg) (s : State) : Shaped (.smpq a d) s (execSmpq a d s) := by
  simp only [Shaped, execSmpq, sampleCommand]
  refine ⟨_, _, rfl, ?_⟩
  split
  · trivial
  · constructor <;> first | rfl | exact fun h => Memory.write_wf h _ _

theorem execSmpqs_shape (a : Reg) (d : Reg) (s : State) : Shaped (.smpqs a d) s (execSmpqs a d s) := by
  simp only [Shaped, execSmpqs, sampleCommand]
  refine ⟨_, _, rfl, ?_⟩
  split
  · trivial
  · constructor <;> first | rfl | exact fun h => Memory.write_wf h _ _

theorem execSmpz_shape (a : Reg) (d : Reg) (s : State) : Shaped (.smpz a d) s (execSmpz a d s) := by
  simp only [Shaped, execSmpz, sampleCommand]
  refine ⟨_, _, rfl, ?_⟩
  split
  · trivial
  · constructor <;> first | rfl | exact fun h => Memory.write_wf h _ _

theorem execFwexp_shape (a : Reg) (b : Reg) (s : State) : Shaped (.fwexp a b) s (execFwexp a b s) := by
  simp only [Shaped, execFwexp]
  refine ⟨_, _, rfl, ?_⟩
  split
  · trivial
  · constructor <;> first | rfl | exact fun h => Memory.write_wf h _ _

theorem execPack_shape (a : Reg) (b : Reg) (d : Reg) (sel : Sel) (s : State) : Shaped (.pack a b d sel) s (execPack a b d sel s) := by
  simp only [Shaped, execPack]
  refine ⟨_, _, rfl, ?_⟩
  constructor <;> first | rfl | exact fun h => Memory.write_wf h _ _

theorem execUnpack_shape (a : Reg) (b : Reg) (d : Reg) (sel : Sel) (s : State) : Shaped (.unpack a b d sel) s (execUnpack a b d sel s) := by
  simp only [Shaped, execUnpack]
  refine ⟨_, _, rfl, ?_⟩
  constructor <;> first | rfl | exact fun h => Memory.write_wf h _ _

theorem execStbuild_shape (a : Reg) (b : Reg) (c : Reg) (s : State) : Shaped (.stbuild a b c) s (execStbuild a b c s) := by
  simp only [Shaped, execStbuild]
  refine ⟨_, _, rfl, ?_⟩
  constructor <;> first | rfl | exact fun h => Memory.write_wf h _ _

theorem execStdisc_shape (a : Reg) (b : Reg) (c : Reg) (d : Reg) (e : Reg) (s : State) : Shaped (.stdisc a b c d e) s (execStdisc a b c d e s) := by
  simp only [Shaped, execStdisc]
  refine ⟨_, _, rfl, ?_⟩
  constructor <;> first | rfl | exact fun h => Memory.write_wf h _ _

theorem execStreb_shape (a : Reg) (b : Reg) (c : Reg) (d : Reg) (e : Reg) (s : State) : Shaped (.streb a b c d e) s (execStreb a b c d e s) := by
  simp only [Shaped, execStreb]
  refine ⟨_, _, rfl, ?_⟩
  constructor <;>
    first | (split <;> rfl) | rfl | (intro h; split <;> first | exact Memory.write_wf h _ _ | exact h)

theorem execMtroot_shape (a : Reg) (b : Reg) (s : State) : Shaped (.mtroot a b) s (execMtroot a b s) := by
  simp only [Shaped, execMtroot]
  refine ⟨_, _, rfl, ?_⟩
  constructor <;> first | rfl | exact fun h => Memory.write_wf h _ _

theorem execMtproof_shape (a : Reg) (b : Reg) (d : Reg) (e : Reg) (s : State) : Shaped (.mtproof a b d e) s (execMtproof a b d e s) := by
  simp only [Shaped, execMtproof]
  refine ⟨_, _, rfl, ?_⟩
  constructor <;> first | rfl | exact fun h => Memory.write_wf h _ _

theorem execMtrecomp_shape (a : Reg) (b : Reg) (c : Reg) (d : Reg) (e : Reg) (s : State) : Shaped (.mtrecomp a b c d e) s (execMtrecomp a b c d e s) := by
  simp only [Shaped, execMtrecomp]
  refine ⟨_, _, rfl, ?_⟩
  constructor <;>
    first | (split <;> rfl) | rfl | (intro h; split <;> first | exact Memory.write_wf h _ _ | exact h)

theorem execKeygen_shape (a : Reg) (b : Reg) (s : State) : Shaped (.keygen a b) s (execKeygen a b s) := by
  simp only [Shaped, execKeygen]
  refine ⟨_, _, rfl, ?_⟩
  split
  · exact ⟨.inl rfl, .inl rfl⟩
  · split
    · trivial
    · constructor <;> first | rfl | exact fun h => Memory.write_wf (Memory.write_wf h _ _) _ _

theorem execSign_shape (a : Reg) (b : Reg) (c : Reg) (d : Reg) (s : State) : Shaped (.sign a b c d) s (execSign a b c d s) := by
  simp only [Shaped, execSign]
  refine ⟨_, _, rfl, ?_⟩
  split
  · exact ⟨.inl rfl, .inl rfl⟩
  · split
    · exact ⟨.inl rfl, .inr rfl⟩
    · split
      · trivial
      · split
        · constructor <;> first | rfl | exact fun h => Memory.write_wf h _ _
        · exact ⟨.inr rfl, .inr rfl⟩

theorem execVerify_shape (a : Reg) (b : Reg) (c : Reg) (d : Reg) (e : Reg) (s : State) : Shaped (.verify a b c d e) s (execVerify a b c d e s) := by
  simp only [Shaped, execVerify]
  refine ⟨_, _, rfl, ?_⟩
  split
  · split
    · trivial
    · constructor <;> first | rfl | exact fun h => h
  · constructor <;> first | rfl | exact fun h => h

/-- Every command runs in the shared frame. -/
theorem exec_shape (i : Instr) (s : State) : Shaped i s (exec i s) := by
  cases i
  · exact execNop_shape s
  · exact execMovi_shape _ _ s
  · exact execMovhi_shape _ _ s
  · exact execFqadd_shape _ _ _ s
  · exact execFqsub_shape _ _ _ s
  · exact execFqmul_shape _ _ _ s
  · exact execFqnorm_shape _ _ s
  · exact execFqinv_shape _ _ s
  · exact execR2f_shape _ _ s
  · exact execIngrp_shape _ _ s
  · exact execF2r_shape _ _ s
  · exact execFzadd_shape _ _ _ s
  · exact execFzsub_shape _ _ _ s
  · exact execFzmul_shape _ _ _ s
  · exact execFznorm_shape _ _ s
  · exact execFzinv_shape _ _ s
  · exact execVqadd_shape _ _ _ _ s
  · exact execVqsub_shape _ _ _ _ s
  · exact execVqmul_shape _ _ _ _ s
  · exact execVqnorm_shape _ _ _ s
  · exact execVqsca_shape _ _ _ _ _ s
  · exact execVr2f_shape _ _ _ s
  · exact execVingrp_shape _ _ _ s
  · exact execVf2r_shape _ _ _ s
  · exact execVzsub_shape _ _ _ _ s
  · exact execVznorm_shape _ _ _ s
  · exact execSynq_shape _ _ _ s
  · exact execSynr_shape _ _ _ s
  · exact execExpz_shape _ _ _ s
  · exact execXinit_shape s
  · exact execXabs_shape _ _ s
  · exact execXabsi_shape _ s
  · exact execXfin_shape s
  · exact execXsqz_shape _ _ s
  · exact execHash_shape _ _ _ s
  · exact execSmpq_shape _ _ s
  · exact execSmpqs_shape _ _ s
  · exact execSmpz_shape _ _ s
  · exact execFwexp_shape _ _ s
  · exact execPack_shape _ _ _ _ s
  · exact execUnpack_shape _ _ _ _ s
  · exact execStbuild_shape _ _ _ s
  · exact execStdisc_shape _ _ _ _ _ s
  · exact execStreb_shape _ _ _ _ _ s
  · exact execMtroot_shape _ _ s
  · exact execMtproof_shape _ _ _ _ s
  · exact execMtrecomp_shape _ _ _ _ _ s
  · exact execKeygen_shape _ _ s
  · exact execSign_shape _ _ _ _ s
  · exact execVerify_shape _ _ _ _ _ s

/-- Every command answers a next state, and what that state can be. -/
theorem exec_cases (i : Instr) (s : State) :
    (∃ c, exec i s = .next (s.takeFault c (encode i))) ∨
    (∃ u, EffectShape s u ∧ exec i s = .next u.complete) ∨
    (∃ c u, (c = .entropy ∨ c = .bound) ∧ (u = s.entropyNext ∨ u = s.entropyNext.entropyNext) ∧
      exec i s = .next (u.takeFault c (encode i))) ∨
    exec i s = .next (s.stayBusy (encode i)) := by
  obtain ⟨checks, r, h, hr⟩ := exec_shape i s
  obtain ⟨t, ht⟩ := runCommand_next i s checks r
  rw [h, ht]
  rcases runCommand_cases ht with ⟨c, -, rfl⟩ | ⟨-, ⟨u, rfl, rfl⟩ | ⟨c, u, rfl, rfl⟩ | ⟨-, rfl⟩⟩
  · exact .inl ⟨c, rfl⟩
  · exact .inr (.inl ⟨u, hr, rfl⟩)
  · exact .inr (.inr (.inl ⟨c, u, hr.1, hr.2, rfl⟩))
  · exact .inr (.inr (.inr rfl))

end Sys2Proof.Machine
end

