-- ==== Sys2Proof/Tests/Slice0.lean ====
section
/-! SUPPORT. The model's own tests: every constructor's word decoded, one-step tests whose expected values are those of
spec/95_test_vectors.md, and a witness for the hypotheses of every obligation that has some. -/

namespace Sys2Proof.Tests

open Sys2Proof.Machine

-- One theorem at a time: many kernel evaluations at once would each hold a thread.
set_option Elab.async false

/-! ### The parameter sets, the toy XOF and the states of 95_test_vectors section 2 -/

/-- TP1 (RSDP, tree mode). -/
def tp1 : Params := ⟨0, 32, 127, 7, 2, 8, 3, 0, 5, 2, 4, 4, 4, 2, 2⟩

/-- TP2 (RSDPG, tree mode). -/
def tp2 : Params := ⟨1, 32, 31, 5, 2, 6, 2, 3, 6, 3, 4, 4, 4, 3, 3⟩

/-- A byte string of `n` bytes, written as one number, the first byte most significant. -/
def hex (n v : Nat) : Bytes := (List.range n).map fun j => BitVec.ofNat 8 (v / 256 ^ (n - 1 - j))

/-- One step of the toy XOF's generator. -/
def toyNext (x : Nat) : Nat :=
  let x := x ^^^ (x * 2 ^ 13 % 2 ^ 32)
  let x := x ^^^ (x / 2 ^ 17)
  x ^^^ (x * 2 ^ 5 % 2 ^ 32)

/-- The toy XOF's hash of the absorbed bytes and of λ = 32. -/
def toySeed (s : Bytes) : Nat :=
  let h := s.foldl (fun h c => (h ^^^ c.toNat) * 0x01000193 % 2 ^ 32) 0x811C9DC5
  let h := (h ^^^ 32) * 0x01000193 % 2 ^ 32
  if h = 0 then 0x9E3779B9 else h

/-- The first `n` bytes of the toy stream from the generator's state `x`. -/
def toyBytes : Nat → Nat → Bytes
  | 0, _ => []
  | n + 1, x => BitVec.ofNat 8 (toyNext x / 256) :: toyBytes n (toyNext x)

/-- ToyXof at λ = 32, the first 32 stream bytes (none of the tests reads more). -/
def toy (s : Bytes) (k : Nat) : Byte := (toyBytes 32 (toySeed s)).getD k 0

/-- The toy streams of a list of inputs (length in bytes, the bytes as one number, stream bytes wanted). -/
def toyKnown (l : List (Nat × Nat × Nat)) : List XofAnswer :=
  l.map fun q => ⟨32, hex q.1 q.2.1, toyBytes q.2.2 (toySeed (hex q.1 q.2.1))⟩

/-- The inputs the XOF and tree rows absorb. -/
def smallInputs : List (Nat × Nat × Nat) :=
  [(0, 0, 12), (3, 0x616263, 20), (5, 0x6162630380, 12), (6, 0x112233440E00, 8), (8, 0x1313131314141414, 4),
    (8, 0x1111111112121212, 4), (8, 0xA167210310101010, 4), (8, 0x8B74DDF8C6A62BF3, 4), (4, 0x10101010, 4),
    (4, 0x11111111, 4), (4, 0x12121212, 4), (16, 0x8DC7D073300E43636AB8BD2FA1672103, 4)]

/-- The inputs KEYGEN, SIGN and VERIFY absorb in program P3. -/
def p3Inputs : List (Nat × Nat × Nat) :=
  [(6, 0xA0A1A2A31000, 8), (6, 0xA6BE27171100, 20), (6, 0xFD9FA8191200, 8), (10, 0xB0B1B2B3C0C1C2C30000, 8),
    (10, 0x58D136D6C0C1C2C30100, 8), (10, 0xF11BB76AC0C1C2C30200, 8), (10, 0x2BF5CB86C0C1C2C30300, 8),
    (10, 0x7D12F9B4C0C1C2C30900, 20), (18, 0x491F91110301082800098020C0C1C2C30080, 4),
    (10, 0x7D12F9B4C0C1C2C30080, 4), (10, 0x10D7E960C0C1C2C30A00, 20),
    (18, 0xC1FCA4080288804000142020C0C1C2C30180, 4)] ++
  [(10, 0x10D7E960C0C1C2C30180, 4), (10, 0xA9F59552C0C1C2C30B00, 20),
    (18, 0x03C08F9C0320200208024102C0C1C2C30280, 4), (10, 0xA9F59552C0C1C2C30280, 4),
    (10, 0xF2D475BFC0C1C2C30C00, 20), (18, 0x7BB9E4090002420011080402C0C1C2C30380, 4),
    (10, 0xF2D475BFC0C1C2C30380, 4), (10, 0x7F343DE4C0C1C2C30D00, 20),
    (18, 0x4D21302C03A0000884100420C0C1C2C30480, 4), (10, 0x7F343DE4C0C1C2C30480, 4), (8, 0x598DF49EB05AB70E, 4),
    (8, 0x5E7E9E2021BECEB3, 4)] ++
  [(8, 0x8F7441BCC344EDE4, 4), (8, 0x8A49ACBBF1A50F5D, 4), (20, 0x67E67756A536C16CC567CAE206EAB6A20894ED75, 4),
    (8, 0x9CA0CA938C6D2A2C, 4), (15, 0x5369676E6D65213E6AA5EDC0C1C2C3, 4), (6, 0x8CC925C40F00, 8),
    (39, 0x2C3ADA08208087F3F5440C3F57D0B55816967C1F1F8A1A7D08F2277B2C976831A3C8578CC925C4, 4),
    (6, 0x656FFF6C0E00, 8)]

/-- The inputs SIGN absorbs in the row of section 3.8 that ends in ERR_BOUND. -/
def boundInputs : List (Nat × Nat × Nat) :=
  [(10, 0xB0B1B2B3000000000000, 8), (10, 0xCC38A990000000000100, 8), (10, 0x28B70864000000000200, 8),
    (10, 0xE7681CE5000000000300, 8), (10, 0xBEE56814000000000900, 20),
    (18, 0x9F9BA6B30720040118084020000000000080, 4), (10, 0xBEE56814000000000080, 4),
    (10, 0x5B7A21CA000000000A00, 20), (18, 0xC2A5ACD50104418080400440000000000180, 4),
    (10, 0x5B7A21CA000000000180, 4), (10, 0xFA92B6F9000000000B00, 20),
    (18, 0x16E8F9FE0584000484004102000000000280, 4)] ++
  [(10, 0xFA92B6F9000000000280, 4), (10, 0x82C4F015000000000C00, 20),
    (18, 0x359D627A0304081002410420000000000380, 4), (10, 0x82C4F015000000000380, 4),
    (10, 0x8E40AE3A000000000D00, 20), (18, 0xC8B37C4605C0000424804002000000000480, 4),
    (10, 0x8E40AE3A000000000480, 4), (8, 0xC1E1572E4466C86C, 4), (8, 0x7A14CBD8860F63FF, 4),
    (8, 0x26A3E465D00429E8, 4), (8, 0x6293D0D3D0F422EC, 4), (20, 0x0886EC2A3A1170C97923547C2530B64D94F8B3CE, 4)] ++
  [(8, 0x6C69F1780BEC81C4, 4), (15, 0x5369676E6D6521DDA340B800000000, 4), (6, 0x0617B22C0F00, 8),
    (39, 0xF3320B95E22BC833A52FC00E24455F2ED0D78A373A452939587C95C1A5D6F67A82D5860617B22C, 4),
    (6, 0x5A311D110E00, 8)]

/-- Writes general registers. -/
def xs (l : List (Nat × Nat)) (s : State) : State := l.foldl (fun s q => s.setX (regOf q.1) q.2) s

/-- The reset state with a parameter set. -/
def holding (p : Params) : State := { State.reset with params := p }

/-- The reset state with TP1. -/
def base : State := holding tp1

/-- What `f` sees of the state after the host's write of a word to CMD. -/
def seen {α : Type} (w : Word) (f : State → α) (s : State) : Option α :=
  match step (s.withFetchWord 32 w.toNat) with
  | .next t => some (f t)
  | _ => none

/-- The toy XOF of the tests is the spec's (section 2, rows 1, 2 and 5). -/
theorem test_toy_xof : toyBytes 12 (toySeed []) = hex 12 0x9421DD741E793B0CBB91CE8C ∧
    toyBytes 12 (toySeed (hex 3 0x616263)) = hex 12 0x439878336C4CAE3F830B730E ∧
    toyBytes 12 (toySeed (hex 5 0x6162630380)) = hex 12 0x1BDEACB2F3CF6CC3269E2CC2 := by decide +kernel

/-- The state of program P3 before KEYGEN. -/
def p3 : State :=
  { (base.writeBytes 0x100 (hex 7 0x5369676E6D6521)) with
    xofKnown := toyKnown p3Inputs
    entropyIn := [some (hex 4 0xA0A1A2A3), some (hex 4 0xB0B1B2B3), some (hex 4 0xC0C1C2C3), none] }

theorem test_keygen : (xs [(1, 0x200), (2, 0x220)] p3 |> seen 0x60120000 fun t =>
    (t.readBytes 0x200 9, t.readBytes 0x220 4, t.status, t.entropyCount)) =
    some (hex 9 0xA6BE2717F364519B07, hex 4 0xA0A1A2A3, 2, 1) := by decide +kernel

/-- The signature of program P3. -/
def p3Sig : Bytes := hex 28 0xC0C1C2C33E6AA5ED656FFF6C2BF5CB86000000008F7441BC00000000 ++
  hex 18 0x2C3ADA082080870108280009802067E67756 ++ hex 18 0xF3F5440C3F57D088804000142020A536C16C ++
  hex 18 0xB55816967C1F1F20200208024102C567CAE2

/-- The state of program P3 before SIGN. -/
def p3Sign : State :=
  xs [(2, 0x220), (3, 0x100), (4, 7), (5, 0x300)] { p3.writeBytes 0x220 (hex 4 0xA0A1A2A3) with
    entropyIn := [some (hex 4 0xB0B1B2B3), some (hex 4 0xC0C1C2C3), none] }

/-- The state of program P3 before VERIFY. -/
def p3Verify : State :=
  xs [(1, 0x200), (3, 0x100), (4, 7), (5, 0x300), (6, 82)]
    ((p3.writeBytes 0x200 (hex 9 0xA6BE2717F364519B07)).writeBytes 0x300 p3Sig)

theorem test_sign : (p3Sign |> seen 0x61523400 fun t => (t.readBytes 0x300 82, t.status, t.entropyIn)) =
    some (p3Sig, 2, [none]) := by decide +kernel

theorem test_sign_bound :
    ({ xs [(5, 0x300)] p3Sign with
        params := { tp1 with stmax := 1 }
        xofKnown := toyKnown (boundInputs ++ p3Inputs)
        entropyIn := [some (hex 4 0xB0B1B2B3), some (hex 4 0)] } |> seen 0x61523400 fun t =>
      (t.errcode, t.entropyCount, t.buf == p3Sign.buf)) = some (8, 2, true) := by decide +kernel

theorem test_verify : (p3Verify |> seen 0x62613450 fun t => (t.flags, t.vfail, t.status)) = some (1, 0, 2) ∧
    (xs [(6, 81)] p3Verify |> seen 0x62613450 fun t => (t.flags, t.vfail, t.status)) = some (0, 5, 2) := by
  decide +kernel

/-- Rows of section 3.8 that only step (7) rejects: the message, the salt, digest_01, digest_b, the disclosed seed, the
proof digest, a member for σ'[0], y[0] + 1 and a bit of cmt_1 (47_protocol R395 to R397). -/
theorem test_verify_compares_digests :
    let verdict := fun (last : Nat) (sig : Bytes) =>
      judge toy tp1 64 (hex 9 0xA6BE2717F364519B07) (hex 7 (0x5369676E6D6500 + last)) sig
    ([verdict 0x3F p3Sig] ++ ([(0, 0xC1), (4, 0x3F), (8, 0x64), (12, 0x2A), (20, 0x8E), (35, 0x02), (28, 0x2D),
      (81, 0x62)].map fun q : Nat × Byte => verdict 0x21 (p3Sig.set q.1 q.2))).all
        (· == some ⟨false, false, true, false⟩) = true := by decide +kernel

/-! ### Decoding: the words of 95_test_vectors section 3, or written out from 30_encoding R132 and R140 -/

theorem test_decode_system : [0x00000000, 0x0130007F, 0x0210FFFF].map (decodeTableWord 32) =
    [some .nop, some (.movi 3 0x7F), some (.movhi 1 0xFFFF)] := by decide +kernel

theorem test_decode_scalar :
    [0x10312000, 0x11312000, 0x12312000, 0x13210000, 0x14210000, 0x15210000, 0x16210000, 0x17210000, 0x18312000,
      0x19312000, 0x1A312000, 0x1B210000, 0x1C210000].map (decodeTableWord 32) =
    [some (.fqadd 3 1 2), some (.fqsub 3 1 2), some (.fqmul 3 1 2), some (.fqnorm 2 1), some (.fqinv 2 1),
      some (.r2f 2 1), some (.ingrp 2 1), some (.f2r 2 1), some (.fzadd 3 1 2), some (.fzsub 3 1 2),
      some (.fzmul 3 1 2), some (.fznorm 2 1), some (.fzinv 2 1)] := by decide +kernel

theorem test_decode_vector :
    [0x20123400, 0x21123400, 0x22123400, 0x23120400, 0x24123450, 0x25120400, 0x26520400, 0x27120400, 0x28123400,
      0x29120400, 0x2A123000, 0x2B123000, 0x2C123000].map (decodeTableWord 32) =
    [some (.vqadd 1 2 3 4), some (.vqsub 1 2 3 4), some (.vqmul 1 2 3 4), some (.vqnorm 1 2 4),
      some (.vqsca 1 2 3 4 5), some (.vr2f 1 2 4), some (.vingrp 5 2 4), some (.vf2r 1 2 4), some (.vzsub 1 2 3 4),
      some (.vznorm 1 2 4), some (.synq 1 2 3), some (.synr 1 2 3), some (.expz 1 2 3)] := by decide +kernel

theorem test_decode_xof :
    [0x30000000, 0x31023000, 0x32008003, 0x33000000, 0x34120000, 0x35123000, 0x36100400, 0x37100400, 0x38100400,
      0x39120000].map (decodeTableWord 32) =
    [some .xinit, some (.xabs 2 3), some (.xabsi 0x8003), some .xfin, some (.xsqz 1 2), some (.hash 1 2 3),
      some (.smpq 1 4), some (.smpqs 1 4), some (.smpz 1 4), some (.fwexp 1 2)] := by decide +kernel

theorem test_decode_codec_and_trees :
    [0x40120400, 0x40120401, 0x41120400, 0x41120401, 0x50123000, 0x51123450, 0x52123450, 0x58120000, 0x59120450,
      0x5A123450].map (decodeTableWord 32) =
    [some (.pack 1 2 4 0), some (.pack 1 2 4 1), some (.unpack 1 2 4 0), some (.unpack 1 2 4 1),
      some (.stbuild 1 2 3), some (.stdisc 1 2 3 4 5), some (.streb 1 2 3 4 5), some (.mtroot 1 2),
      some (.mtproof 1 2 4 5), some (.mtrecomp 1 2 3 4 5)] := by decide +kernel

theorem test_decode_protocol : [0x60120000, 0x61123400, 0x62123450].map (decodeTableWord 32) =
    [some (.keygen 1 2), some (.sign 1 2 3 4), some (.verify 1 2 3 4 5)] := by decide +kernel

/-- A field bit that a command does not use, `sel` = 2, an opcode that no row has (30_encoding R135, R141, R142). -/
theorem test_decode_refuses :
    [0x00000001, 0x0131007F, 0x13211000, 0x40120402, 0x41120408, 0x03000000, 0x53000000, 0xFF000000].map
      (decodeTableWord 32) = List.replicate 8 none := by decide +kernel

/-- The well-formedness check refuses each ill-formed term, and its word does not decode. -/
theorem test_wellFormed_refuses :
    [Instr.pack 1 2 4 2, .pack 1 2 4 15, .unpack 1 2 4 2, .unpack 1 2 4 8].map (fun i => (i.wellFormed,
      (decodeTableWord 32 (encode i).toNat).isSome)) = List.replicate 4 (false, false) := by decide +kernel

/-- A scalar command with every field at its largest value. -/
theorem test_encode_edges : encode (.verify 15 15 15 15 15) = 0x62FFFFF0#32 ∧ encode (.movi 15 0xFFFF) = 0x01F0FFFF#32 ∧
    encode (.unpack 15 0 15 1) = 0x41F00F01#32 := by decide +kernel

/-! ### System and scalar commands (95_test_vectors sections 3.1 and 3.2) -/

theorem test_nop : seen 0x00000000 (fun t => (t.status, { t with status := 0 })) base = some (2, base) := by
  decide +kernel

theorem test_movi : seen 0x01F0FFFF (·.val 15) State.reset = some 0xFFFF ∧
    seen 0x01000000 (·.val 0) (xs [(0, 77)] base) = some 0 := by decide +kernel

theorem test_movhi : seen 0x02100001 (·.val 1) (xs [(1, 0x2000)] base) = some 0x12000 ∧
    seen 0x0210FFFF (·.val 1) (xs [(1, 0x12345678)] base) = some 0xFFFF5678 := by decide +kernel

theorem test_fqadd : seen 0x10312000 (·.val 3) (xs [(1, 100), (2, 50)] base) = some 23 ∧
    seen 0x10312000 (fun t => (t.errcode, t.errinfo)) (xs [(1, 0x10000)] base) = some (5, 0x10312000) := by
  decide +kernel

theorem test_fqsub : seen 0x11312000 (·.val 3) (xs [(1, 5), (2, 9)] base) = some 123 ∧
    seen 0x11312000 (·.val 3) (xs [(1, 77), (2, 77)] base) = some 0 := by decide +kernel

theorem test_fqmul : seen 0x12312000 (·.val 3) (xs [(1, 100), (2, 100)] base) = some 94 ∧
    seen 0x12312000 (·.errcode) (xs [(1, 5), (2, 127)] base) = some 5 := by decide +kernel

theorem test_fqnorm : seen 0x13210000 (·.val 2) (xs [(1, 253)] base) = some 126 ∧
    seen 0x13210000 (·.errcode) (xs [(1, 254)] base) = some 5 := by decide +kernel

theorem test_fqinv : seen 0x14210000 (·.val 2) (xs [(1, 3)] base) = some 85 ∧
    seen 0x14210000 (fun t => (t.errcode, t.val 2)) (xs [(2, 9)] base) = some (6, 9) := by decide +kernel

theorem test_r2f : seen 0x15210000 (·.val 2) (xs [(1, 6)] base) = some 64 ∧
    seen 0x15210000 (·.errcode) (xs [(1, 7)] base) = some 5 := by decide +kernel

theorem test_ingrp : seen 0x16210000 (fun t => (t.val 2, t.flags)) (xs [(1, 64)] base) = some (1, 2) ∧
    seen 0x16210000 (fun t => (t.val 2, t.flags)) (xs [(1, 128)] base) = some (0, 0) := by decide +kernel

theorem test_f2r : seen 0x17210000 (fun t => (t.val 2, t.flags)) (xs [(1, 32)] base) = some (5, 2) ∧
    seen 0x17210000 (fun t => (t.val 2, t.flags)) (xs [(1, 3)] base) = some (0, 0) := by decide +kernel

theorem test_fzadd : seen 0x18312000 (·.val 3) (xs [(1, 5), (2, 4)] base) = some 2 ∧
    seen 0x18312000 (·.errcode) (xs [(1, 7)] base) = some 5 := by decide +kernel

theorem test_fzsub : seen 0x19312000 (·.val 3) (xs [(1, 2), (2, 5)] base) = some 4 ∧
    seen 0x19312000 (·.val 3) (xs [(1, 0), (2, 6)] base) = some 1 := by decide +kernel

theorem test_fzmul : seen 0x1A312000 (·.val 3) (xs [(1, 3), (2, 5)] base) = some 1 ∧
    seen 0x1A312000 (·.errcode) (xs [(1, 3), (2, 7)] base) = some 5 := by decide +kernel

theorem test_fznorm : seen 0x1B210000 (·.val 2) (xs [(1, 13)] base) = some 6 ∧
    seen 0x1B210000 (·.errcode) (xs [(1, 14)] base) = some 5 := by decide +kernel

theorem test_fzinv : seen 0x1C210000 (·.val 2) (xs [(1, 3)] base) = some 5 ∧
    seen 0x1C210000 (·.errcode) base = some 6 := by decide +kernel

/-- A modulus that is no prime (10_state R67). -/
theorem test_composite_modulus :
    seen 0x14210000 (·.val 2) (xs [(1, 7)] (holding { tp1 with q := 15, z := 4 })) = some 13 ∧
    seen 0x14210000 (·.errcode) (xs [(1, 6)] (holding { tp1 with q := 15, z := 4 })) = some 6 := by decide +kernel

/-! ### Vector and matrix commands (section 3.3) -/

/-- The state of section 3.3: destination 0x200, `a` at 0x100, `b` at 0x140, n in x[4], β in x[5]. -/
def lanes (p : Params) (n beta : Nat) (a b : List Nat) : State :=
  xs [(1, 0x200), (2, 0x100), (3, 0x140), (4, n), (5, beta)] (((holding p).writeElems 0x100 a).writeElems 0x140 b)

theorem test_vqadd : seen 0x20123400 (·.readElems 0x200 3) (lanes tp1 3 0 [100, 126, 0] [50, 1, 0]) = some [23, 0, 0] ∧
    seen 0x20123400 (fun t => (t.errcode, t.readElems 0x200 3)) (lanes tp1 3 0 [100, 127, 0] [50, 1, 0]) =
      some (5, [0, 0, 0]) := by decide +kernel

/-- The destination overlaps the source: sources are read whole first (20_memory R101). -/
theorem test_vqadd_overlap :
    seen 0x20123400 (·.readElems 0x100 4) (xs [(1, 0x102), (3, 0x100)] (lanes tp1 3 0 [1, 2, 3, 4] [])) =
      some [1, 2, 4, 6] := by decide +kernel

/-- The region test is on unbounded integers, and length 0 passes (20_memory R91). -/
theorem test_vqadd_address : seen 0x20123400 (·.errcode) (xs [(1, 4090)] (lanes tp1 3 0 [] [])) = some 0 ∧
    seen 0x20123400 (·.errcode) (xs [(1, 4091)] (lanes tp1 3 0 [] [])) = some 4 ∧
    seen 0x20123400 (·.errcode) (xs [(1, 0xFFFFFFFF)] (lanes tp1 0 0 [] [])) = some 0 ∧
    seen 0x20123400 (·.errcode) (xs [(1, 0xFFFFFFFE)] (lanes tp1 1 0 [] [])) = some 4 := by decide +kernel

theorem test_vqsub : seen 0x21123400 (·.readElems 0x200 3) (lanes tp1 3 0 [5, 0, 126] [9, 1, 126]) =
    some [123, 126, 0] := by decide +kernel

theorem test_vqmul : seen 0x22123400 (·.readElems 0x200 3) (lanes tp1 3 0 [100, 2, 126] [100, 64, 126]) =
    some [94, 1, 1] := by decide +kernel

theorem test_vqnorm : seen 0x23120400 (·.readElems 0x200 3) (lanes tp1 3 0 [130, 127, 5] []) = some [3, 0, 5] ∧
    seen 0x23120400 (·.errcode) (lanes tp1 3 0 [130, 254, 5] []) = some 5 := by decide +kernel

theorem test_vqsca : seen 0x24123450 (·.readElems 0x200 2) (lanes tp1 2 100 [1, 120] [3, 5]) = some [47, 112] ∧
    seen 0x24123450 (·.errcode) (lanes tp1 2 127 [1, 120] [3, 5]) = some 5 := by decide +kernel

theorem test_vr2f : seen 0x25120400 (·.readElems 0x200 4) (lanes tp1 4 0 [0, 1, 5, 6] []) = some [1, 2, 32, 64] ∧
    seen 0x25120400 (·.errcode) (lanes tp1 4 0 [0, 1, 7, 6] []) = some 5 := by decide +kernel

theorem test_vingrp : seen 0x26520400 (fun t => (t.val 5, t.flags)) (lanes tp1 3 0 [1, 64, 32] []) = some (1, 2) ∧
    seen 0x26520400 (fun t => (t.val 5, t.flags)) (lanes tp1 3 9 [1, 200, 32] []) = some (0, 0) := by decide +kernel

theorem test_vf2r : seen 0x27120400 (fun t => (t.readElems 0x200 3, t.flags)) (lanes tp1 3 0 [1, 64, 3] []) =
    some ([0, 6, 0], 0) := by decide +kernel

theorem test_vzsub : seen 0x28123400 (·.readElems 0x200 3) (lanes tp1 3 0 [2, 0, 6] [5, 0, 1]) = some [4, 0, 5] ∧
    seen 0x28123400 (·.errcode) (lanes tp1 3 0 [2, 0, 7] [5, 0, 1]) = some 5 := by decide +kernel

theorem test_vznorm : seen 0x29120400 (·.readElems 0x200 4) (lanes tp1 4 0 [9, 7, 13, 3] []) = some [2, 0, 6, 3] := by
  decide +kernel

/-- TP1 with N = 4 and K = 2, of the SYNQ and SYNR rows. -/
def tpSyn : Params := { tp1 with n := 4, k := 2 }

/-- TP2 with Z = 7, Q = 127, N = 5, M = 2, K = 2, of the EXPZ rows. -/
def tpExp : Params := { tp2 with q := 127, z := 7, n := 5, k := 2, m := 2 }

theorem test_synq : seen 0x2A123000 (·.readElems 0x200 2) (lanes tpSyn 0 0 [1, 2, 3, 4] [5, 6, 7, 8]) = some [22, 26] ∧
    seen 0x2A123000 (·.errcode) (lanes tpSyn 0 0 [1, 2, 3, 127] [5, 6, 7, 8]) = some 5 := by decide +kernel

theorem test_synr : seen 0x2B123000 (·.readElems 0x200 2) (lanes tpSyn 0 0 [0, 1, 2, 3] [5, 6, 7, 8]) = some [23, 30] ∧
    seen 0x2B123000 (·.errcode) (lanes tpSyn 0 0 [0, 1, 2, 7] [5, 6, 7, 8]) = some 5 := by decide +kernel

theorem test_expz :
    seen 0x2C123000 (·.readElems 0x200 5) (lanes tpExp 0 0 [3, 5] [1, 2, 3, 4, 5, 6]) = some [2, 3, 4, 3, 5] ∧
    seen 0x2C123000 (·.errcode) (lanes tp1 0 0 [3, 5] [1, 2, 3, 4, 5, 6]) = some 1 := by decide +kernel

/-! ### XOF context, hash, sampler (section 3.4) -/

/-- The state of section 3.4: "abc" at 0x100. -/
def abc : State :=
  { xs [(1, 0x200), (2, 0x100), (3, 3)] (base.writeBytes 0x100 (hex 3 0x616263)) with xofKnown := toyKnown smallInputs }

/-- The same state in a session that has absorbed `bs`. -/
def session (bs : Bytes) : State := { abc with xph := .absorb, xin := bs }

/-- The same state in a session whose stream is that of `bs`, at position 0. -/
def stream (bs : Bytes) : State := { abc with xph := .squeeze, xin := bs }

theorem test_xinit : seen 0x30000000 (fun t => (t.xph, t.xin, t.xpos)) (stream (hex 3 0x616263)) =
    some (.absorb, [], 0) := by decide +kernel

theorem test_xabs : seen 0x31023000 (fun t => (t.xph, t.xin)) (session [7]) = some (.absorb, hex 4 0x07616263) ∧
    seen 0x31023000 (·.errcode) (stream []) = some 3 := by decide +kernel

theorem test_xabsi : seen 0x32008003 (·.xin) (session (hex 3 0x616263)) = some (hex 5 0x6162630380) ∧
    seen 0x32008003 (·.errcode) abc = some 3 := by decide +kernel

theorem test_xfin : seen 0x33000000 (fun t => (t.xph, t.xin, t.xpos)) (session [7]) = some (.squeeze, [7], 0) ∧
    seen 0x33000000 (·.errcode) (stream []) = some 3 := by decide +kernel

theorem test_xsqz : seen 0x34120000 (fun t => (t.readBytes 0x205 8, t.xpos))
    { xs [(1, 0x205), (2, 7)] (stream (hex 5 0x6162630380)) with xpos := 5 } =
    some (hex 8 0xCF6CC3269E2CC200, 12) := by decide +kernel

theorem test_hash : seen 0x35123000 (fun t => (t.readBytes 0x200 5, t.xph, t.xin)) (stream [7]) =
    some (hex 5 0x4398783300, .idle, []) ∧
    seen 0x35123000 (·.readBytes 0x200 4) (xs [(2, 0xFFFFFFFF), (3, 0)] abc) = some (hex 4 0x9421DD74) := by
  decide +kernel

theorem test_smpq : seen 0x36100400 (fun t => (t.readElems 0x200 6, t.xpos)) (xs [(4, 6)] (stream (hex 3 0x616263))) =
    some ([67, 48, 98, 27, 67, 13], 12) ∧
    seen 0x36100400 (fun t => (t.readElems 0x200 3, t.xpos))
      { xs [(4, 3)] (stream (hex 3 0x616263)) with xpos := 8 } = some ([3, 23, 76], 16) := by decide +kernel

theorem test_smpqs : seen 0x37100400 (fun t => (t.readElems 0x200 6, t.xpos)) (xs [(4, 6)] (stream (hex 3 0x616263))) =
    some ([68, 49, 99, 28, 68, 14], 12) := by decide +kernel

theorem test_smpz : seen 0x38100400 (fun t => (t.readElems 0x200 10, t.xpos))
    (xs [(4, 10)] (stream (hex 3 0x616263))) = some ([3, 0, 1, 4, 1, 1, 6, 3, 3, 6], 8) := by decide +kernel

/-- The stream `FF 00 A5 3C 7E 81 12 F0`: rejected windows, and 8 bytes consumed (43_xof R260). -/
theorem test_sample_rejects :
    let S := fun k => (hex 8 0xFF00A53C7E8112F0).getD k 0
    sample S 64 127 5 0 0 = some ([63, 0, 37, 121, 120], 8) ∧ sample S 64 7 8 0 0 = some ([3, 0, 0, 2, 1, 5, 4, 3], 8) ∧
    sample S 64 2 3 0 0 = some ([1, 1, 1], 8) ∧ sample S 64 65535 1 0 0 = some ([255], 4) := by decide +kernel

theorem test_fwexp : seen 0x39120000 (fun t => (t.readBytes 0x200 5, t.xph))
    ((stream []).writeBytes 0x100 (hex 4 0x11223344)) = some (hex 5 0x0001010000, .idle) := by decide +kernel

/-! ### Codec (section 3.5) -/

theorem test_pack : seen 0x40120400 (·.readBytes 0x200 5) (lanes tp1 5 0 [63, 0, 37, 121, 120] []) =
    some (hex 5 0x3F40298F07) ∧
    seen 0x40120401 (·.readBytes 0x200 2) (lanes tp1 3 0 [6, 6, 6] []) = some (hex 2 0xB601) := by decide +kernel

theorem test_unpack :
    seen 0x41120400 (fun t => (t.readElems 0x200 3, t.can)) ((lanes tp1 3 0 [] []).writeBytes 0x100 (hex 3 0x01C120)) =
      some ([1, 2, 3], false) ∧
    seen 0x41120401 (fun t => (t.readElems 0x200 8, t.can)) ((lanes tp1 8 0 [] []).writeBytes 0x100 (hex 3 0x039472)) =
      some ([3, 0, 0, 2, 1, 5, 4, 3], true) := by decide +kernel

/-! ### Trees (sections 3.6 and 3.7) -/

/-- Disclosure sets of section 3.6. -/
theorem test_disclosure_sets : dset [true, false, false, true, false] = [4, 7] ∧
    dset [true, true, true, true, true] = [0] ∧ dset [false, true, true, false, true, false] = [6, 7, 9] ∧
    dset [true, true, true, true, false, false, true, true] = [1, 6] ∧
    pset [false, true, true, false, true, true, false] = [3, 10, 11] := by decide +kernel

/-- The state of section 3.6: root seed at 0x100, salt at 0x110, bitmap at 0x120. -/
def tree (bitmap dst : Nat) : State :=
  { xs [(1, dst), (2, 0x100), (3, 0x110), (4, 0x120)]
      (((base.writeBytes 0x100 (hex 4 0xB0B1B2B3)).writeBytes 0x110 (hex 4 0xC0C1C2C3)).writeBytes 0x120
        (hex 5 bitmap)) with
    xofKnown := toyKnown p3Inputs }

theorem test_stbuild : seen 0x50123000 (·.readBytes 0x200 20) (tree 0 0x200) =
    some (hex 20 0x7D12F9B410D7E960A9F59552F2D475BF7F343DE4) := by decide +kernel

theorem test_stdisc :
    seen 0x51123450 (fun t => (t.readBytes 0x300 8, t.val 5)) (tree 0x0000000101 0x300) = some (hex 8 0x2BF5CB8600000000, 1) ∧
    seen 0x51123450 (·.errcode) (tree 0x0101000100 0x300) = some 8 := by decide +kernel

theorem test_streb :
    seen 0x52123450 (fun t => (t.readBytes 0x300 20, t.str))
      (xs [(2, 0x140), (5, 1)] ((tree 0x0000000101 0x300).writeBytes 0x140 (hex 8 0x2BF5CB86AABBCCDD))) =
      some (hex 20 0xF2D475BF7F343DE4, true) ∧
    seen 0x52123450 (fun t => (t.readBytes 0x300 4, t.str, t.err)) (xs [(5, 3)] (tree 0x0100000100 0x300)) =
      some (hex 4 0, false, false) := by decide +kernel

/-- The state of section 3.7: the leaf digests at 0x100, bitmap at 0x120, proof at 0x140. -/
def merkle (mode : Word) (leaves : Nat) (bitmap : Nat) (proof : Nat) : State :=
  { xs [(1, 0x300), (2, 0x100), (3, 0x140), (4, 0x120)]
      ((((holding { tp1 with mode := mode }).writeBytes 0x100 (hex 20 leaves)).writeBytes 0x120
        (hex 5 bitmap)).writeBytes 0x140 (hex 8 proof)) with
    xofKnown := toyKnown smallInputs }

theorem test_mtroot :
    seen 0x58120000 (·.readBytes 0x300 4) (merkle 0 0x1010101011111111121212121313131314141414 0 0) =
      some (hex 4 0x6971E92C) ∧
    seen 0x58120000 (·.readBytes 0x300 4) (merkle 2 0x1010101011111111121212121313131314141414 0 0) =
      some (hex 4 0xB82392DA) := by decide +kernel

theorem test_mtproof :
    seen 0x59120450 (fun t => (t.readBytes 0x300 8, t.val 5))
      (merkle 0 0x1010101011111111121212121313131314141414 0x0001010001 0) = some (hex 8 0xC6A62BF314141414, 2) ∧
    seen 0x59120450 (·.errcode) (merkle 0 0x1010101011111111121212121313131314141414 0x0001030001 0) = some 5 := by
  decide +kernel

theorem test_mtrecomp :
    seen 0x5A123450 (fun t => (t.readBytes 0x300 4, t.str))
      (xs [(5, 2)] (merkle 0 0xFFFFFFFF1111111112121212FFFFFFFF14141414 0x0100000100 0x1010101013131313)) =
      some (hex 4 0x6971E92C, true) ∧
    seen 0x5A123450 (fun t => (t.readBytes 0x300 4, t.str, t.err))
      (xs [(5, 1)] (merkle 0 0xFFFFFFFF1111111112121212FFFFFFFF14141414 0x0100000100 0x1010101013131313)) =
      some (hex 4 0, false, false) := by decide +kernel

/-! ### Host interface, status bits, reset (sections 3.9 and 3.10) -/

/-- The lowest code of several conditions is the one reported (60_exceptions R453). -/
theorem test_fault_priority : seen 0x10312001 (·.errcode) State.reset = some 1 ∧
    seen 0x2C123000 (·.errcode) State.reset = some 1 ∧
    seen 0x2C123000 (·.errcode) (holding { Params.reset with mode := 1 }) = some 2 ∧
    seen 0x36100400 (·.errcode) (xs [(1, 0xFFFFFFFF), (4, 1)] base) = some 3 ∧
    seen 0x51123450 (·.errcode) (tree 0x0101020100 0x300) = some 5 := by decide +kernel

/-- Rows 5 to 8: the first fault is kept, STATUS bits are cleared by writing 1 (60_exceptions R454, R455). -/
theorem test_status_is_write_one_to_clear :
    let s := (State.reset.takeFault .param 0x10312000).takeFault .illegal 0xFF000000
    (s.statusWord, s.errcode, s.errinfo) = (6, 2, 0x10312000) ∧
    ((s.access (.regWrite 4 2)).statusWord, (s.access (.regWrite 4 2)).errcode) = (4, 2) ∧
    ((s.access (.regWrite 4 4)).statusWord, (s.access (.regWrite 4 4)).errinfo) = (2, 0) := by decide +kernel

/-- Rows 10 and 11: the derived sizes, 0 under an invalid set (10_state R68). -/
theorem test_derived_sizes : [0x0C0, 0x0C4, 0x0C8].map base.regRead = [9, 4, 82] ∧
    (base.access (.regWrite 0x0A4 5)).regRead 0x0C8 = 0 := by decide +kernel

/-- Rows 23 and 24: while a command runs a write is dropped and sets OVR (20_memory R104). -/
theorem test_busy_write_is_dropped :
    ((base.start 0x61123400).access (.regWrite 0x044 9)).statusWord = 9 ∧
    ((base.start 0x61123400).access (.regWrite 0x044 9)).val 1 = 0 := by decide +kernel

/-- While a command runs a write at an unlisted or unaligned offset has no effect, OVR included, and one of the last
parameter register is dropped (93 U12, U13; 10_state R77). -/
theorem test_busy_write_at_unlisted_offset :
    let s := base.start 0x61123400
    s.access (.regWrite 0x024 1) = s ∧ s.access (.regWrite 0x0FC 1) = s ∧ s.access (.regWrite 0x042 1) = s ∧
      s.access (.regWrite 0x0B8 1) = s.setOvr := by decide +kernel

/-- Row 29: BUF's last byte, and the first address past it (20_memory R90). -/
theorem test_buf_edges : (base.access (.bufWrite 0xFFF [0x5A])).bufRead 0xFFF 1 = [0x5A] ∧
    base.access (.bufWrite 0x1000 [1]) = base ∧ base.bufRead 0x1000 1 = [0] := by decide +kernel

/-! ### Witnesses: for every obligation with hypotheses, states and operands that meet them, clause by clause -/

theorem witness_EitherResetEndsEverything :
    (∃ s : State, ∃ e rest, s.host = e :: rest ∧ s.running = none ∧ e.access = .hardReset) ∧
    ∃ s : State, ∃ e rest, ∃ v : Word, s.host = e :: rest ∧ s.running ≠ none ∧ e.whileBusy = true ∧
      v.getLsbD 0 = true ∧ e.access = .regWrite 0x000 v :=
  ⟨⟨{ base with host := [⟨false, .hardReset⟩] }, _, _, rfl, rfl, rfl⟩,
    ⟨{ base.start 0 with host := [⟨true, .regWrite 0x000 7⟩] }, _, _, 7, rfl, by decide, rfl, by decide, rfl⟩⟩

theorem witness_DecodeOfEncodeIsTheCommand : (Instr.unpack 15 0 15 1).wellFormed = true := by decide

theorem witness_LegalWordIsTheEncodingOfItsCommand : decode 0x41F00F01#32 = .ok (.unpack 15 0 15 1) := by rfl

theorem witness_IllegalWordFaults :
    let w := 0x61123401#32
    let s := { base with host := [⟨true, .regWrite 0x010 w⟩, ⟨false, .regRead 4⟩] }
    let u := { base with host := [⟨false, .regWrite 0x010 w⟩, ⟨true, .regRead 0x01C⟩] }
    decode w = .error .fieldNotZero ∧
      (s.running = none ∧ s.host = ⟨true, .regWrite 0x010 w⟩ :: [⟨false, .regRead 4⟩] ∧
        accessesWhileBusy [⟨false, .regRead 4⟩] = false ∧ s.err = false ∧ (s.takeFault .addr 0).err = true) ∧
      (u.running = none ∧ u.host = ⟨false, .regWrite 0x010 w⟩ :: [⟨true, .regRead 0x01C⟩] ∧
        accessesWhileBusy [⟨true, .regRead 0x01C⟩] = true) ∧
      ((base.start w).running = some w ∧ accessesWhileBusy (base.start w).host = false) := by
  exact ⟨rfl, by decide +kernel, by decide +kernel, by decide +kernel⟩

theorem witness_StepRunsTheDecodedCommand :
    decode 0x10312000#32 = .ok (.fqadd 3 1 2) ∧
    (let s := { base with host := [cmdWrite 32 0x10312000, ⟨false, .regRead 4⟩] };
      s.running = none ∧ s.host = ⟨false, .regWrite 0x010 0x10312000⟩ :: [⟨false, .regRead 4⟩] ∧
        accessesWhileBusy [⟨false, .regRead 4⟩] = false) ∧
    (let s := { base with host := [cmdWrite 32 0x10312000, ⟨true, .regRead 4⟩] };
      s.running = none ∧ s.host = ⟨false, .regWrite 0x010 0x10312000⟩ :: [⟨true, .regRead 4⟩] ∧
        accessesWhileBusy [⟨true, .regRead 4⟩] = true) ∧
    ((base.start 0x10312000).running = some 0x10312000 ∧ accessesWhileBusy (base.start 0x10312000).host = false) := by
  exact ⟨rfl, by decide +kernel, by decide +kernel, by decide +kernel⟩

/-- A safe state with a recorded fault, an open session and a protocol command in progress, and its next step. -/
theorem witness_StepKeepsControlRegistersSafe :
    let s := (State.takeFault { base with xph := .squeeze, xin := [1], xpos := 4 } .addr 0x61123400).start 0x62123450
    ControlOk s ∧ ∃ t, step s = .next t := by
  refine ⟨⟨by decide +kernel, by decide +kernel, by decide +kernel, by decide +kernel, fun h => ?_, fun _ => ⟨.addr, rfl⟩,
    fun h => (by cases h), fun w h => ?_, fun h => ?_, fun h => (by cases h), fun h => (by cases h)⟩, _, rfl⟩
  · revert h; decide +kernel
  · cases h; decide +kernel
  · revert h; decide +kernel

theorem witness_StepKeepsBufferInsideItsBounds :
    let s := { base.writeBytes 0xFFF [0x5A] with host := [⟨false, .bufWrite 0xFFE [0, 1]⟩] }
    BufferOk s ∧ ∃ t, step s = .next t := ⟨⟨by decide +kernel, by decide +kernel⟩, _, rfl⟩

theorem witness_FaultHasNoOtherEffect :
    base.err = false ∧ (∃ t, exec (.xfin) base = .next t ∧ t.err = true ∧ t.errcode ≠ FaultCode.toWord .entropy ∧
      t.errcode ≠ FaultCode.toWord .bound) ∧
    ∃ t, exec (.keygen 1 2) { base with entropyIn := [none] } = .next t ∧ t.err = true ∧ t.errcode = 7 :=
  ⟨by decide +kernel, ⟨base.takeFault .xofseq 0x33000000, rfl, by decide +kernel, by decide +kernel, by decide +kernel⟩,
    ⟨State.takeFault { base with entropyIn := [], entropyCount := 1 } .entropy 0x60120000, by rfl, by decide +kernel,
      by decide +kernel⟩⟩

theorem witness_FirstFaultIsKept :
    let s := base.takeFault .param 0x10312000
    s.err = true ∧ (∃ t, exec .xfin s = .next t) ∧ ∃ t, exec .nop s = .next t := ⟨by decide +kernel, ⟨_, rfl⟩, ⟨_, rfl⟩⟩

theorem witness_InvalidParametersFaultFirst :
    State.reset.params.valid = false ∧ (holding { Params.reset with mode := 1 }).params.valid = false ∧
      (holding { tp1 with w := 5 }).params.valid = false ∧ (Instr.movi 1 2).wellFormed = true ∧
      (Instr.expz 1 2 3).wellFormed = true ∧ (Instr.pack 1 2 3 1).wellFormed = true := by decide +kernel

theorem witness_CommandEndsOrStaysBusy :
    (∃ t, exec .nop base = .next t ∧ t.running = none) ∧
    ∃ t, exec (.smpq 1 3) { stream [] with attempts := 0 } = .next t ∧ t.running = some 0x36100300 := by
  exact ⟨⟨_, rfl, rfl⟩, ⟨_, rfl, by decide +kernel⟩⟩

theorem witness_StatusWriteClearsWrittenBits : (0xF#32).getLsbD 2 = true ∧ (0xB#32).getLsbD 2 = false := by decide

theorem witness_EnablesAndTheInterruptLine : (0xFFFFFFFE#32).getLsbD 0 = false := by decide

theorem witness_WritesWhileBusyAreDropped :
    (base.start 0).busy = true ∧
    (∀ off ∈ [0x010, 0x040, 0x07C, 0x080, 0x0B8], off % 4 = 0 ∧ (off = 0x010 ∨ (0x040 ≤ off ∧ off < 0x0BC))) ∧
    (∀ off ∈ [0x042, 0x008, 0x00C, 0x014, 0x03C, 0x0BC, 0x0C0, 0x0FC, 0x100], off % 4 ≠ 0 ∨
      (off ≠ 0x000 ∧ off ≠ 0x004 ∧ off ≠ 0x010 ∧ ¬(0x040 ≤ off ∧ off < 0x0BC))) ∧
    1 ≤ [(1 : Byte)].length ∧ 0xFFF + [(1 : Byte)].length ≤ (base.start 0).bufBytes ∧
    ¬0x1000 + [(1 : Byte)].length ≤ (base.start 0).bufBytes := by decide +kernel

theorem witness_RegistersReadBackAsWritten :
    base.busy = false ∧ (∀ off ∈ [0x040, 0x07C, 0x080, 0x0B8],
      off % 4 = 0 ∧ ((0x040 ≤ off ∧ off < 0x080) ∨ (0x080 ≤ off ∧ off < 0x0BC))) ∧
    ((0x044 ≠ 0x040) ∧ (0x044 < 0x0C0 ∨ 0x040 < 0x080)) ∧ ((0x0C8 ≠ 0x07C) ∧ (0x0C8 < 0x0C0 ∨ 0x07C < 0x080)) ∧
    (∀ off ∈ [0x042, 0x008, 0x03C, 0x0BC, 0x0C0, 0x100], off % 4 ≠ 0 ∨
      (off ≠ 0x000 ∧ off ≠ 0x004 ∧ off ≠ 0x010 ∧ ¬(0x040 ≤ off ∧ off < 0x0BC))) ∧
    (∀ off ∈ [0x042, 0x010, 0x024, 0x03C, 0x0BC, 0x0CC, 0x0FC],
      off % 4 ≠ 0 ∨ off = 0x010 ∨ (0x024 ≤ off ∧ off < 0x040) ∨ off = 0x0BC ∨ 0x0CC ≤ off) ∧
    (IsWidth base.params.Q 7 ∧ base.params.valid = true) ∧
    (IsWidth State.reset.params.Q 0 ∧ State.reset.params.valid = false) := by
  unfold IsWidth; decide +kernel

theorem witness_HostReadsBackBufBytes :
    base.busy = false ∧ Memory.wf base.buf ∧ 1 ≤ [(1 : Byte)].length ∧ 0xFFF + [(1 : Byte)].length ≤ base.bufBytes ∧
      base.bufBytes < 0x1000 + [(1 : Byte)].length := by decide +kernel

theorem witness_PseqShowsTheRunningProtocolCommand :
    ControlOk base ∧ base.running = none ∧ (base.start 0x10312000).running = some 0x10312000 ∧
      pseqOp 0x10312000 = 0 ∧ (base.start 0x62123450).running = some 0x62123450 ∧ pseqOp 0x62123450 = 3 ∧
      pseqOp 0x60120000 = 1 := by
  refine ⟨⟨by decide +kernel, by decide +kernel, by decide +kernel, by decide +kernel, fun _ => ⟨rfl, rfl⟩, fun h => ?_,
    fun _ => rfl, fun w h => (by cases h), fun _ => rfl, fun _ => ⟨rfl, rfl⟩, fun _ => rfl⟩, by decide +kernel⟩
  exact absurd h (by decide +kernel)

theorem witness_ScalarSumDifferenceProductModQ :
    let s := xs [(1, 126), (2, 126)] base
    let u := xs [(1, 127)] base
    State.reset.params.valid ≠ true ∧ s.params.valid = true ∧ (s.val 1 < s.params.Q ∧ s.val 2 < s.params.Q) ∧
      u.params.valid = true ∧ ¬(u.val 1 < u.params.Q ∧ u.val 2 < u.params.Q) := by decide +kernel

theorem witness_ScalarSumDifferenceProductModZ :
    let s := xs [(1, 6), (2, 6)] base
    let u := xs [(1, 0), (2, 7)] base
    State.reset.params.valid ≠ true ∧ s.params.valid = true ∧ (s.val 1 < s.params.Z ∧ s.val 2 < s.params.Z) ∧
      u.params.valid = true ∧ ¬(u.val 1 < u.params.Z ∧ u.val 2 < u.params.Z) ∧ (tp1.valid = true ∧ 6 < tp1.Z) := by
  decide +kernel

theorem witness_ScalarCanonicalisation :
    let s := xs [(1, 253), (2, 13)] base
    let u := xs [(1, 254), (2, 14)] base
    State.reset.params.valid ≠ true ∧ s.params.valid = true ∧ s.val 1 < 2 * s.params.Q ∧ s.val 2 < 2 * s.params.Z ∧
      u.params.valid = true ∧ ¬u.val 1 < 2 * u.params.Q ∧ ¬u.val 2 < 2 * u.params.Z := by decide +kernel

theorem witness_ScalarInverses :
    let s := xs [(1, 126), (2, 6)] base
    let u := xs [(1, 127), (2, 7)] base
    State.reset.params.valid ≠ true ∧ s.params.valid = true ∧
      (s.val 1 < s.params.Q ∧ Nat.gcd (s.val 1) s.params.Q = 1) ∧
      (s.val 2 < s.params.Z ∧ Nat.gcd (s.val 2) s.params.Z = 1) ∧
      (base.val 1 < base.params.Q ∧ ¬Nat.gcd (base.val 1) base.params.Q = 1) ∧
      (base.val 1 < base.params.Z ∧ ¬Nat.gcd (base.val 1) base.params.Z = 1) ∧
      ¬u.val 1 < u.params.Q ∧ ¬u.val 2 < u.params.Z := by decide +kernel

theorem witness_RestrictedToField :
    State.reset.params.valid ≠ true ∧ base.params.valid = true ∧ (xs [(1, 6)] base).val 1 < base.params.Z ∧
      ¬(xs [(1, 7)] base).val 1 < base.params.Z ∧
      (tp1.valid = true ∧ 3 < tp1.Z ∧ tp1.G ^ 3 % tp1.Q = tp1.G ^ 3 % tp1.Q) := by decide +kernel

theorem witness_MembershipAndDiscreteLogarithm :
    State.reset.params.valid ≠ true ∧ base.params.valid = true ∧
      (6 < tp1.Z ∧ tp1.G ^ 6 % tp1.Q = (xs [(1, 64)] base).val 1) ∧
      ¬∃ e, e < tp1.Z ∧ tp1.G ^ e % tp1.Q = (xs [(1, 3)] base).val 1 := by decide +kernel

theorem witness_ExponentMapIsAnIsomorphism :
    tp1.valid = true ∧ 6 < tp1.Z ∧ tp1.inG 64 = true ∧ tp2.valid = true := by decide +kernel

theorem witness_PointwiseSumDifferenceProduct :
    let s := xs [(1, 4090)] (lanes tp1 3 0 [6, 0, 1] [5, 6, 0])
    let far := xs [(1, 4091)] s
    let q := lanes tp1 3 0 [100, 127, 0] [50, 1, 0]
    (Memory.wf s.buf ∧ s.params.valid = true ∧ Fits s [(s.val 1, 2 * s.val 4), (s.val 2, 2 * s.val 4),
      (s.val 3, 2 * s.val 4)] ∧ ElemsBelow s (s.val 2) (s.val 4) s.params.Q ∧
      ElemsBelow s (s.val 3) (s.val 4) s.params.Q ∧ ElemsBelow s (s.val 2) (s.val 4) s.params.Z ∧
      ElemsBelow s (s.val 3) (s.val 4) s.params.Z) ∧
    State.reset.params.valid ≠ true ∧
    (far.params.valid = true ∧ ¬Fits far [(far.val 1, 2 * far.val 4), (far.val 2, 2 * far.val 4),
      (far.val 3, 2 * far.val 4)]) ∧
    (q.params.valid = true ∧ Fits q [(q.val 1, 2 * q.val 4), (q.val 2, 2 * q.val 4), (q.val 3, 2 * q.val 4)] ∧
      ¬(ElemsBelow q (q.val 2) (q.val 4) q.params.Q ∧ ElemsBelow q (q.val 3) (q.val 4) q.params.Q) ∧
      ¬(ElemsBelow q (q.val 2) (q.val 4) q.params.Z ∧ ElemsBelow q (q.val 3) (q.val 4) q.params.Z)) := by
  unfold Fits ElemsBelow; decide +kernel

theorem witness_PointwiseCanonicalisationAndEmbedding :
    let s := xs [(1, 4090)] (lanes tp1 3 0 [6, 0, 1] [])
    let far := xs [(1, 4091)] s
    let q := lanes tp1 3 0 [6, 254, 0] []
    (Memory.wf s.buf ∧ s.params.valid = true ∧ Fits s [(s.val 1, 2 * s.val 4), (s.val 2, 2 * s.val 4)] ∧
      ElemsBelow s (s.val 2) (s.val 4) (2 * s.params.Q) ∧ ElemsBelow s (s.val 2) (s.val 4) (2 * s.params.Z) ∧
      ElemsBelow s (s.val 2) (s.val 4) s.params.Z) ∧
    State.reset.params.valid ≠ true ∧
    (far.params.valid = true ∧ ¬Fits far [(far.val 1, 2 * far.val 4), (far.val 2, 2 * far.val 4)]) ∧
    (q.params.valid = true ∧ Fits q [(q.val 1, 2 * q.val 4), (q.val 2, 2 * q.val 4)] ∧
      ¬ElemsBelow q (q.val 2) (q.val 4) (2 * q.params.Q) ∧ ¬ElemsBelow q (q.val 2) (q.val 4) (2 * q.params.Z) ∧
      ¬ElemsBelow q (q.val 2) (q.val 4) q.params.Z) := by unfold Fits ElemsBelow; decide +kernel

theorem witness_ScaledCombination :
    let s := lanes tp1 2 126 [1, 120] [3, 5]
    let beta := lanes tp1 2 127 [1, 120] [3, 5]
    let far := xs [(1, 4093)] s
    let regions := fun u : State => [(u.val 1, 2 * u.val 4), (u.val 2, 2 * u.val 4), (u.val 3, 2 * u.val 4)]
    (Memory.wf s.buf ∧ s.params.valid = true ∧ Fits s (regions s) ∧ s.val 5 < s.params.Q ∧
      ElemsBelow s (s.val 2) (s.val 4) s.params.Q ∧ ElemsBelow s (s.val 3) (s.val 4) s.params.Q) ∧
    State.reset.params.valid ≠ true ∧ (far.params.valid = true ∧ ¬Fits far (regions far)) ∧
    (beta.params.valid = true ∧ Fits beta (regions beta) ∧ ¬(beta.val 5 < beta.params.Q)) := by
  unfold Fits ElemsBelow; decide +kernel

theorem witness_VectorMembershipAndLogarithms :
    let s := lanes tp1 3 0 [1, 64, 3] []
    let far := xs [(2, 4091)] s
    (Memory.wf s.buf ∧ s.params.valid = true ∧ Fits s [(s.val 2, 2 * s.val 4)] ∧
      Fits s [(s.val 1, 2 * s.val 4), (s.val 2, 2 * s.val 4)]) ∧ State.reset.params.valid ≠ true ∧
    (far.params.valid = true ∧ ¬Fits far [(far.val 2, 2 * far.val 4)] ∧
      ¬Fits far [(far.val 1, 2 * far.val 4), (far.val 2, 2 * far.val 4)]) := by unfold Fits; decide +kernel

theorem witness_Syndromes :
    let s := lanes tpSyn 0 0 [0, 1, 2, 6] [126, 6, 7, 8]
    let far := xs [(3, 0xFFF)] s
    let q := lanes tpSyn 0 0 [0, 1, 2, 127] [5, 6, 7, 8]
    let p := s.params
    let regions := fun u : State => [(u.val 1, 2 * (p.N - p.K)), (u.val 2, 2 * p.N), (u.val 3, 2 * (p.K * (p.N - p.K)))]
    (Memory.wf s.buf ∧ p.valid = true ∧ Fits s (regions s) ∧ ElemsBelow s (s.val 2) p.N p.Q ∧
      ElemsBelow s (s.val 2) p.N p.Z ∧ ElemsBelow s (s.val 3) (p.K * (p.N - p.K)) p.Q) ∧
    State.reset.params.valid ≠ true ∧ (far.params.valid = true ∧ ¬Fits far (regions far)) ∧
    (q.params.valid = true ∧ Fits q (regions q) ∧ ¬ElemsBelow q (q.val 2) p.N p.Q ∧ ¬ElemsBelow q (q.val 2) p.N p.Z) ∧
    ([1, 2, 3, 4].length = p.N ∧ [9, 8, 7, 6].length = p.N) := by
  unfold Fits ElemsBelow; decide +kernel

theorem witness_ExpansionThroughWmat :
    let s := lanes tpExp 0 0 [3, 6] [1, 2, 3, 4, 5, 6]
    let far := xs [(1, 4087)] s
    let q := lanes tpExp 0 0 [3, 7] [1, 2, 3, 4, 5, 6]
    let p := s.params
    let regions := fun u : State => [(u.val 1, 2 * p.N), (u.val 2, 2 * p.M), (u.val 3, 2 * (p.M * (p.N - p.M)))]
    (Memory.wf s.buf ∧ p.mode.getLsbD 0 = true ∧ p.valid = true ∧ Fits s (regions s) ∧
      ElemsBelow s (s.val 2) p.M p.Z ∧ ElemsBelow s (s.val 3) (p.M * (p.N - p.M)) p.Z) ∧
    ¬base.params.mode.getLsbD 0 = true ∧
    ((holding { tpExp with w := 9 }).params.mode.getLsbD 0 = true ∧ ¬(holding { tpExp with w := 9 }).params.valid = true) ∧
    (far.params.valid = true ∧ ¬Fits far (regions far)) ∧
    (q.params.valid = true ∧ Fits q (regions q) ∧ ¬ElemsBelow q (q.val 2) p.M p.Z) ∧
    ([3, 5].length = p.M ∧ [6, 0].length = p.M ∧ allBelow p.Z [3, 5] = true ∧ allBelow p.Z [6, 0] = true) := by
  unfold Fits ElemsBelow; decide +kernel

theorem witness_XofSessionCommands :
    let s := session [7]
    let far := xs [(2, 0xFFE)] s
    (s.params.valid = true ∧ s.xph = .absorb ∧ Fits s [(s.val 2, s.val 3)]) ∧ State.reset.params.valid ≠ true ∧
    (abc.params.valid = true ∧ ¬abc.xph = .absorb) ∧
    (far.params.valid = true ∧ far.xph = .absorb ∧ ¬Fits far [(far.val 2, far.val 3)]) := by
  unfold Fits; decide +kernel

theorem witness_SqueezeAndHash :
    let s := xs [(1, 0xFFD)] (stream [7])
    let t := stream [7]
    let far := xs [(1, 0xFFE)] (stream [7])
    (Memory.wf s.buf ∧ s.params.valid = true ∧ s.xph = .squeeze ∧ Fits s [(s.val 1, s.val 3)]) ∧
    Fits t [(t.val 1, t.params.digestBytes), (t.val 2, t.val 3)] ∧ State.reset.params.valid ≠ true ∧
    (abc.params.valid = true ∧ ¬abc.xph = .squeeze) ∧
    (far.params.valid = true ∧ far.xph = .squeeze ∧ ¬Fits far [(far.val 1, far.val 3)] ∧
      ¬Fits far [(far.val 1, far.params.digestBytes), (far.val 2, far.val 3)]) := by unfold Fits; decide +kernel

theorem witness_HashEqualsTheFourCommandSession :
    let s := xs [(4, 4)] abc
    s.params.valid = true ∧ Fits s [(s.val 1, s.params.digestBytes), (s.val 2, s.val 3)] ∧
      s.val 4 = s.params.digestBytes := by unfold Fits; decide +kernel

/-- Every clause of the sampling rule, for the bounds of SMPQ, SMPQS and SMPZ. -/
theorem witness_SamplingCommands :
    let s := xs [(4, 6)] (stream (hex 3 0x616263))
    let far := xs [(1, 4085)] s
    (Memory.wf s.buf ∧ s.params.valid = true ∧ s.xph = .squeeze ∧ Fits s [(s.val 1, 2 * s.val 4)]) ∧
    (∀ m ∈ [s.params.Q, s.params.Q - 1, s.params.Z],
      (∃ vs f, DrawsAll (s.xof s.xin) (List.replicate (s.val 4) m) (Sampler.fresh s.xpos) vs f) ∧
      sample (s.xof s.xin) 0 m (s.val 4) 0 s.xpos = none) ∧
    State.reset.params.valid ≠ true ∧ (abc.params.valid = true ∧ abc.xph ≠ .squeeze) ∧
    (far.params.valid = true ∧ far.xph = .squeeze ∧ ¬Fits far [(far.val 1, 2 * far.val 4)]) := by
  refine ⟨by unfold Fits; decide +kernel, fun m hm => ⟨?_, ?_⟩, by unfold Fits; decide +kernel⟩
  · have key : ∀ m ∈ [127, 126, 7],
        (drawMany ((stream (hex 3 0x616263)).xof (hex 3 0x616263)) 64 (List.replicate 6 m) (Sampler.fresh 0)).isSome =
          true := by decide +kernel
    obtain ⟨⟨vs, f⟩, h⟩ := Option.isSome_iff_exists.mp (key m hm)
    exact ⟨vs, f, drawMany_drawsAll h⟩
  · revert m; decide +kernel

/-- The stream of the rows that hold for any XOF (95_test_vectors section 3.4). -/
def anyStream (k : Nat) : Byte := (hex 8 0xFF00A53C7E8112F0).getD k 0

theorem witness_SampledValuesAreInRange : sample anyStream 64 127 5 0 0 = some ([63, 0, 37, 121, 120], 8) ∧ 64 ≤ 65 := by
  decide +kernel

theorem witness_ShiftRegisterNeverOverflows :
    (∀ d ∈ [Sampler.fresh 0, ⟨4, 0xFFFFFFFF, 32⟩, ⟨4, 0x1FFFFFFFF, 33⟩, ⟨8, 0xFFFFFFFFFFFFFFFF, 64⟩],
      d.nb ≤ 64 ∧ d.sr.toNat < 2 ^ d.nb) ∧ (⟨4, 0xFFFFFFFF, 32⟩ : Sampler).nb ≤ 32 ∧ (16 : Nat) ≤ 16 := by decide +kernel

theorem witness_FixedWeightExpansion :
    let s := (stream []).writeBytes 0x100 (hex 4 0x11223344)
    let far := xs [(1, 0xFFC)] s
    let p := s.params
    (Memory.wf s.buf ∧ p.valid = true ∧ Fits s [(s.val 1, p.T), (s.val 2, p.digestBytes)]) ∧
    (∃ rs f, DrawsAll (s.xof (s.readBytes (s.val 2) p.digestBytes ++ le16 (3 * p.T - 1)))
      ((List.range (p.T - 1)).map fun pos => p.T - pos) (Sampler.fresh 0) rs f) ∧
    State.reset.params.valid ≠ true ∧
    (far.params.valid = true ∧ ¬Fits far [(far.val 1, p.T), (far.val 2, p.digestBytes)]) ∧
    (2 ≤ 5 ∧ fixedWeight anyStream 64 5 2 = some [false, true, false, true, false]) := by
  refine ⟨by unfold Fits; decide +kernel, ?_, by unfold Fits; decide +kernel⟩
  have key : (drawMany ((stream []).xof (hex 6 0x112233440E00)) 64 [5, 4, 3, 2] (Sampler.fresh 0)).isSome = true := by
    decide +kernel
  obtain ⟨⟨rs, f⟩, h⟩ := Option.isSome_iff_exists.mp key
  exact ⟨rs, f, drawMany_drawsAll h⟩

theorem witness_PackAndUnpackBitByBit :
    let s := lanes tp1 3 0 [6, 6, 6] []
    let far := xs [(1, 0xFFE)] s
    let q := lanes tp1 3 0 [1, 127, 3] []
    (Memory.wf s.buf ∧ IsWidth s.params.Q 7 ∧ IsWidth s.params.Z 3 ∧ s.params.valid = true ∧
      Fits s [(s.val 1, (s.val 4 * 7 + 7) / 8), (s.val 2, 2 * s.val 4)] ∧
      Fits s [(s.val 1, 2 * s.val 4), (s.val 2, (s.val 4 * 7 + 7) / 8)] ∧
      ElemsBelow s (s.val 2) (s.val 4) s.params.Q ∧ ElemsBelow s (s.val 2) (s.val 4) s.params.Z) ∧
    ¬((2 : Sel) = 0 ∨ (2 : Sel) = 1) ∧ State.reset.params.valid ≠ true ∧ IsWidth State.reset.params.Q 0 ∧
    (far.params.valid = true ∧ ¬Fits far [(far.val 1, (far.val 4 * 7 + 7) / 8), (far.val 2, 2 * far.val 4)] ∧
      ¬Fits far [(far.val 1, 2 * far.val 4), (far.val 2, (far.val 4 * 7 + 7) / 8)]) ∧
    (q.params.valid = true ∧ Fits q [(q.val 1, (q.val 4 * 7 + 7) / 8), (q.val 2, 2 * q.val 4)] ∧
      ¬ElemsBelow q (q.val 2) (q.val 4) q.params.Q) := by unfold Fits ElemsBelow IsWidth; decide +kernel

theorem witness_CodecRoundTrips :
    let s := lanes tp1 3 0 [6, 6, 6] []
    (allBelow 127 [126, 0, 1] = true ∧ [126, 0, 1].length = 3) ∧
    ((hex 3 0x01C100).length = packedBytes 3 (bits 127) ∧ packedCanonical 127 3 (hex 3 0x01C100) = true) ∧
    (Memory.wf s.buf ∧ s.params.valid = true ∧ ∀ sel ∈ [(0 : Sel), 1], (sel = 0 ∨ sel = 1) ∧
      Fits s [(s.val 1, packedBytes (s.val 4) (bits (s.params.selected sel))), (s.val 2, 2 * s.val 4),
        (s.val 3, 2 * s.val 4)] ∧ ElemsBelow s (s.val 2) (s.val 4) (s.params.selected sel)) := by
  unfold Fits ElemsBelow; decide +kernel

theorem witness_SeedTreeBuildAndDisclosure :
    let s := tree 0x0000000101 0x300
    let p := s.params
    let regions := fun u : State => [(u.val 1, p.stMax * p.seedBytes), (u.val 2, p.seedBytes), (u.val 3, p.saltBytes),
      (u.val 4, p.T)]
    let far := xs [(4, 0xFFC)] s
    let q := tree 0x0100020000 0x300
    let many := tree 0x0101000100 0x300
    let flat := { s with params := { tp1 with mode := 2 } }
    (Memory.wf s.buf ∧ p.valid = true ∧ p.flat = false ∧
      Fits s [(s.val 1, p.T * p.seedBytes), (s.val 2, p.seedBytes), (s.val 3, p.saltBytes)] ∧ Fits s (regions s) ∧
      BitmapAt s (s.val 4) ∧ (dset (bitmapAt s (s.val 4))).length ≤ p.stMax) ∧
    (∃ seed, IsSeedTree s.xof p (s.readBytes (s.val 2) p.seedBytes) (s.readBytes (s.val 3) p.saltBytes) seed) ∧
    (flat.params.valid = true ∧ flat.params.flat = true ∧ ones (bitmapAt flat (flat.val 4)) ≤ flat.params.stMax) ∧
    State.reset.params.valid ≠ true ∧ (far.params.valid = true ∧ ¬Fits far (regions far)) ∧
    ¬Fits (xs [(2, 0xFFD)] s) (regions (xs [(2, 0xFFD)] s)) ∧
    (q.params.valid = true ∧ Fits q (regions q) ∧ ¬BitmapAt q (q.val 4)) ∧
    (many.params.valid = true ∧ Fits many (regions many) ∧ BitmapAt many (many.val 4) ∧
      ¬(dset (bitmapAt many (many.val 4))).length ≤ many.params.stMax) := by
  refine ⟨by unfold Fits BitmapAt; decide +kernel, ⟨fun n => (seedNodes (tree 0x0000000101 0x300).xof tp1
    (hex 4 0xB0B1B2B3) (hex 4 0xC0C1C2C3)).getD n [], ⟨by decide +kernel, by decide +kernel, by decide +kernel⟩⟩,
    by unfold Fits BitmapAt; decide +kernel⟩

theorem witness_SeedTreeRebuild :
    let s := xs [(5, 1)] (tree 0x0000000101 0x300)
    let p := s.params
    let regions := fun u : State => [(u.val 1, p.T * p.seedBytes), (u.val 2, p.stMax * p.seedBytes),
      (u.val 3, p.saltBytes), (u.val 4, p.T)]
    let far := xs [(1, 0xFF0)] s
    let q := tree 0x0100020000 0x300
    let flat := { xs [(5, 2)] s with params := { tp1 with mode := 2 } }
    (Memory.wf s.buf ∧ p.valid = true ∧ Fits s (regions s) ∧ BitmapAt s (s.val 4) ∧ p.flat = false ∧
      bitmapAt s (s.val 4) = [false, false, false, true, true] ∧ s.val 5 = (dset (bitmapAt s (s.val 4))).length ∧
      (dset (bitmapAt s (s.val 4))).length ≤ p.stMax) ∧
    (∃ full, IsFull [false, false, false, true, true] full ∧ ∃ seed : Nat → Bytes,
      seed 3 = hex 4 0x2BF5CB86 ∧ ∀ n < p.T - 1, full n = true →
        seed (2 * n + 1) = streamBytes (s.xof (seed n ++ hex 4 0xC0C1C2C3 ++ le16 n)) 0 p.seedBytes ∧
        seed (2 * n + 2) = streamBytes (s.xof (seed n ++ hex 4 0xC0C1C2C3 ++ le16 n)) p.seedBytes p.seedBytes) ∧
    (xs [(5, 2)] s).val 5 ≠ (dset (bitmapAt s (s.val 4))).length ∧
    (flat.params.valid = true ∧ flat.params.flat = true ∧ flat.val 5 = ones (bitmapAt flat (flat.val 4))) ∧
    State.reset.params.valid ≠ true ∧ (far.params.valid = true ∧ ¬Fits far (regions far)) ∧
    (q.params.valid = true ∧ Fits q (regions q) ∧ ¬BitmapAt q (q.val 4)) := by
  refine ⟨by unfold Fits BitmapAt; decide +kernel, ⟨fun n => (fullNodes [false, false, false, true, true]).getD n false,
    ⟨by decide +kernel, by decide +kernel⟩, fun n => (seedNodes (tree 0x0000000101 0x300).xof tp1 (hex 4 0xB0B1B2B3)
      (hex 4 0xC0C1C2C3)).getD n [], by decide +kernel, by decide +kernel⟩, by unfold Fits BitmapAt; decide +kernel⟩

theorem witness_DisclosureSetIsTheMaximalFullNodes :
    1 ≤ [false, false, false, true, true].length ∧ ∃ full, IsFull [false, false, false, true, true] full :=
  ⟨by decide, fun n => (fullNodes [false, false, false, true, true]).getD n false, ⟨by decide +kernel, by decide +kernel⟩⟩

theorem witness_ProofSetIsTheDisclosureSet :
    1 ≤ [false, false, false, true, true].length ∧ ∃ known, IsKnown [false, false, false, true, true] known :=
  ⟨by decide, fun n => (knownNodes [false, false, false, true, true]).getD n false,
    ⟨by decide +kernel, by decide +kernel⟩⟩

/-- The hypotheses of the machine half of the seed tree's round trip, with x[6] the address of the rebuilt seeds. -/
def DisclosureHyps (s : State) : Prop :=
  Memory.wf s.buf ∧ s.params.valid = true ∧
  Fits s ([(s.val 1, s.params.stMax * s.params.seedBytes)] ++ [(s.val 2, s.params.seedBytes),
    (s.val 3, s.params.saltBytes), (s.val 4, s.params.T), (s.val 6, s.params.T * s.params.seedBytes)]) ∧
  BitmapAt s (s.val 4) ∧ coverCount s.params (bitmapAt s (s.val 4)) ≤ s.params.stMax ∧
  (5 : Reg) ∉ [(1 : Reg), 3, 4, 6] ∧
  (∀ j < s.params.saltBytes, Outside [(s.val 1, s.params.stMax * s.params.seedBytes)] (s.val 3 + j)) ∧
  ∀ j < s.params.T, Outside [(s.val 1, s.params.stMax * s.params.seedBytes)] (s.val 4 + j)

theorem witness_RebuildRecoversDisclosedSeeds :
    (∀ p ∈ [tp1, { tp1 with mode := 2 }], 2 ≤ p.T ∧ [true, false, false, true, false].length = p.T ∧
      (hex 4 0xB0B1B2B3).length = p.seedBytes ∧ coverCount p [true, false, false, true, false] ≤ p.stMax ∧ 3 < p.T ∧
      [true, false, false, true, false].getD 3 false = true) ∧
    DisclosureHyps (xs [(6, 0x340)] (tree 0x0000000101 0x300)) ∧
    DisclosureHyps { xs [(6, 0x340)] (tree 0x0000000101 0x300) with params := { tp1 with mode := 2 } } := by
  unfold DisclosureHyps Fits BitmapAt Outside; decide +kernel

/-- The leaf digests of section 3.7. -/
def leafRow : Nat := 0x1010101011111111121212121313131314141414

theorem witness_MerkleRootAndProof :
    let s := merkle 0 leafRow 0x0000000101 0
    let p := s.params
    let regions := fun u : State => [(u.val 1, p.mtMax * p.digestBytes), (u.val 2, p.T * p.digestBytes), (u.val 4, p.T)]
    let far := xs [(2, 0xFF0)] s
    let q := merkle 0 leafRow 0x0001030001 0
    let many := merkle 0 leafRow 0x0101000100 0
    let flat := merkle 2 leafRow 0x0000000101 0
    (Memory.wf s.buf ∧ p.valid = true ∧ p.flat = false ∧
      Fits s [(s.val 1, p.digestBytes), (s.val 2, p.T * p.digestBytes)] ∧ Fits s (regions s) ∧ BitmapAt s (s.val 4) ∧
      (pset (bitmapAt s (s.val 4))).length ≤ p.mtMax) ∧
    (∃ node, IsMerkleTree s.xof p (fun i => s.readBytes (s.val 2 + i * p.digestBytes) p.digestBytes) node) ∧
    (flat.params.valid = true ∧ flat.params.flat = true ∧ ones (bitmapAt flat (flat.val 4)) ≤ flat.params.mtMax) ∧
    State.reset.params.valid ≠ true ∧ (far.params.valid = true ∧ ¬Fits far (regions far) ∧
      ¬Fits far [(far.val 1, p.digestBytes), (far.val 2, p.T * p.digestBytes)]) ∧
    (q.params.valid = true ∧ Fits q (regions q) ∧ ¬BitmapAt q (q.val 4)) ∧
    (many.params.valid = true ∧ Fits many (regions many) ∧ BitmapAt many (many.val 4) ∧
      ¬(pset (bitmapAt many (many.val 4))).length ≤ many.params.mtMax) := by
  refine ⟨by unfold Fits BitmapAt; decide +kernel, ⟨fun n => (merkleNodes (merkle 0 leafRow 0 0).xof tp1
    (digestArray tp1 5 (hex 20 leafRow))).getD n [], ⟨by decide +kernel, by decide +kernel⟩⟩,
    by unfold Fits BitmapAt; decide +kernel⟩

theorem witness_MerkleRootRecomputation :
    let s := xs [(5, 2)] (merkle 0 0xFFFFFFFF1111111112121212FFFFFFFF14141414 0x0100000100 0x1010101013131313)
    let p := s.params
    let regions := fun u : State => [(u.val 1, p.digestBytes), (u.val 2, p.T * p.digestBytes),
      (u.val 3, p.mtMax * p.digestBytes), (u.val 4, p.T)]
    let slot := fun i => s.readBytes (s.val 2 + i * p.digestBytes) p.digestBytes
    let item := fun k => s.readBytes (s.val 3 + k * p.digestBytes) p.digestBytes
    let bm := bitmapAt s (s.val 4)
    let far := xs [(3, 0xFF9)] s
    let q := merkle 0 leafRow 0x0001030001 0
    let flat := xs [(5, 2)] (merkle 2 0xFFFFFFFF1111111112121212FFFFFFFF14141414 0x0100000100 0x1010101013131313)
    (Memory.wf s.buf ∧ p.valid = true ∧ p.flat = false ∧ Fits s (regions s) ∧ BitmapAt s (s.val 4) ∧
      s.val 5 = (pset bm).length ∧ (pset bm).length ≤ p.mtMax) ∧
    (∃ node : Nat → Bytes, ∃ known, IsKnown bm known ∧
      (∀ i < p.T, bm.getD i false = false → node (p.T - 1 + i) = slot i) ∧
      (∀ k < (pset bm).length, node ((pset bm).getD k 0) = item k) ∧
      ∀ n < p.T - 1, known n = true → node n = hashOf s.xof p (node (2 * n + 1) ++ node (2 * n + 2))) ∧
    (∃ leaf : Nat → Bytes, (∀ i < p.T, bm.getD i false = false → leaf i = slot i) ∧
      ∀ k < ones bm, leaf ((markedRounds bm).getD k 0) = item k) ∧
    (flat.params.valid = true ∧ flat.params.flat = true ∧ flat.val 5 = ones (bitmapAt flat (flat.val 4))) ∧
    (xs [(5, 1)] s).val 5 ≠ (pset bm).length ∧ State.reset.params.valid ≠ true ∧
    (far.params.valid = true ∧ ¬Fits far (regions far)) ∧
    (q.params.valid = true ∧ Fits q (regions q) ∧ ¬BitmapAt q (q.val 4)) := by
  refine ⟨by unfold Fits BitmapAt; decide +kernel, ⟨fun n => (merkleNodes (merkle 0 leafRow 0 0).xof tp1
    (digestArray tp1 5 (hex 20 leafRow))).getD n [], fun n => (knownNodes [true, false, false, true, false]).getD n false,
    ⟨by decide +kernel, by decide +kernel⟩, by decide +kernel, by decide +kernel, by decide +kernel⟩,
    ⟨fun i => (digestArray tp1 5 (hex 20 leafRow)).getD i [], by decide +kernel, by decide +kernel⟩,
    by unfold Fits BitmapAt; decide +kernel⟩

/-- The hypotheses of the machine half of the Merkle tree's agreement, with x[6] the address of the recomputed root. -/
def ProofHyps (s : State) : Prop :=
  Memory.wf s.buf ∧ s.params.valid = true ∧
  Fits s ([(s.val 1, s.params.mtMax * s.params.digestBytes)] ++ [(s.val 2, s.params.T * s.params.digestBytes),
    (s.val 4, s.params.T), (s.val 6, s.params.digestBytes)]) ∧
  BitmapAt s (s.val 4) ∧ proofCount s.params (bitmapAt s (s.val 4)) ≤ s.params.mtMax ∧
  (5 : Reg) ∉ [(1 : Reg), 2, 4, 6] ∧
  (∀ j < s.params.T, Outside [(s.val 1, s.params.mtMax * s.params.digestBytes)] (s.val 4 + j)) ∧
  ∀ i < s.params.T, (bitmapAt s (s.val 4)).getD i false = false → ∀ j < s.params.digestBytes,
    Outside [(s.val 1, s.params.mtMax * s.params.digestBytes)] (s.val 2 + i * s.params.digestBytes + j)

theorem witness_RecomputedRootIsTheRoot :
    (∀ p ∈ [tp1, { tp1 with mode := 2 }], 2 ≤ p.T ∧ [true, false, false, true, false].length = p.T ∧
      (digestArray tp1 5 (hex 20 leafRow)).length = p.T ∧
      (∀ l ∈ digestArray tp1 5 (hex 20 leafRow), l.length = p.digestBytes) ∧
      proofCount p [true, false, false, true, false] ≤ p.mtMax ∧
      ∀ i < p.T, [true, false, false, true, false].getD i false = false →
        (digestArray tp1 5 (hex 20 0xFFFFFFFF1111111112121212FFFFFFFF14141414)).getD i [] =
          (digestArray tp1 5 (hex 20 leafRow)).getD i []) ∧
    ProofHyps (xs [(6, 0x340)] (merkle 0 leafRow 0x0100000100 0)) ∧
    ProofHyps (xs [(6, 0x340)] (merkle 2 leafRow 0x0100000100 0)) :=
  ⟨by decide +kernel, by unfold ProofHyps Fits BitmapAt Outside; decide +kernel,
    by unfold ProofHyps Fits BitmapAt Outside; decide +kernel⟩

theorem witness_KeygenWritesTheKeyPair :
    let s := xs [(1, 0x200), (2, 0x220)] p3
    let p := s.params
    let seeds := streamBytes (s.xof (hex 4 0xA0A1A2A3 ++ le16 (3 * p.T + 1))) 0 (2 * p.seedBytes)
    let far := xs [(1, 0xFF8)] s
    (Memory.wf s.buf ∧ p.valid = true ∧ Fits s [(s.val 1, p.pkBytes), (s.val 2, p.seedBytes)] ∧
      s.entropyAnswer p.seedBytes = some (hex 4 0xA0A1A2A3) ∧
      expandPublic s.xof p s.attempts (seeds.take p.seedBytes) =
        some ([5, 81, 105, 117, 17, 43, 76, 68, 2, 21, 90, 62, 61, 120, 112], []) ∧
      expandSecret s.xof p s.attempts (seeds.drop p.seedBytes) = some [6, 3, 3, 0, 3, 6, 3, 0]) ∧
    State.reset.params.valid ≠ true ∧
    (far.params.valid = true ∧ ¬Fits far [(far.val 1, p.pkBytes), (far.val 2, p.seedBytes)]) ∧
    State.entropyAnswer { s with entropyIn := [none] } p.seedBytes = none := by unfold Fits; decide +kernel

theorem witness_SignWritesTheSignature :
    let s := p3Sign
    let p := s.params
    let regions := fun u : State => [(u.val 5, p.sigBytes), (u.val 2, p.skBytes), (u.val 3, u.val 4)]
    let far := xs [(5, 0xFAF)] s
    let u := { s with
      params := { tp1 with stmax := 1 }
      xofKnown := toyKnown (boundInputs ++ p3Inputs)
      entropyIn := [some (hex 4 0xB0B1B2B3), some (hex 4 0)] }
    (Memory.wf s.buf ∧ p.valid = true ∧ Fits s (regions s) ∧
      s.entropyAnswer p.seedBytes = some (hex 4 0xB0B1B2B3) ∧
      s.entropyNext.entropyAnswer p.saltBytes = some (hex 4 0xC0C1C2C3) ∧
      signature s.xof p s.attempts (s.readBytes (s.val 2) p.seedBytes) (hex 4 0xB0B1B2B3) (hex 4 0xC0C1C2C3)
        (s.readBytes (s.val 3) (s.val 4)) = some ([false, false, false, true, true], p3Sig) ∧
      (dset [false, false, false, true, true]).length ≤ p.stMax ∧
      (dset [false, false, false, true, true]).length ≤ p.mtMax) ∧
    State.reset.params.valid ≠ true ∧ (far.params.valid = true ∧ ¬Fits far (regions far)) ∧
    State.entropyAnswer { s with entropyIn := [none] } p.seedBytes = none ∧
    (State.entropyNext { s with entropyIn := [some (hex 4 0), none] }).entropyAnswer p.saltBytes = none ∧
    (u.params.valid = true ∧ Fits u (regions u) ∧ ∃ bm sig,
      signature u.xof u.params u.attempts (u.readBytes (u.val 2) 4) (hex 4 0xB0B1B2B3) (hex 4 0)
        (u.readBytes (u.val 3) (u.val 4)) = some (bm, sig) ∧ u.params.stMax < (dset bm).length) := by
  refine ⟨by unfold Fits; decide +kernel, by decide +kernel, by unfold Fits; decide +kernel, by decide +kernel,
    by decide +kernel, by decide +kernel, by unfold Fits; decide +kernel, ?_⟩
  have key : ((signature (State.xof { p3Sign with
        params := { tp1 with stmax := 1 }
        xofKnown := toyKnown (boundInputs ++ p3Inputs)
        entropyIn := [some (hex 4 0xB0B1B2B3), some (hex 4 0)] }) { tp1 with stmax := 1 } 65536
        (hex 4 0xA0A1A2A3) (hex 4 0xB0B1B2B3) (hex 4 0) (hex 7 0x5369676E6D6521)).map
      fun q => decide (1 < (dset q.1).length)) = some true := by decide +kernel
  obtain ⟨⟨bm, sig⟩, h, hc⟩ := Option.map_eq_some_iff.mp key
  exact ⟨bm, sig, h, of_decide_eq_true hc⟩

theorem witness_SignatureHasTheLayout :
    tp1.valid = true ∧ (hex 4 0xB0B1B2B3).length = tp1.seedBytes ∧ (hex 4 0xC0C1C2C3).length = tp1.saltBytes ∧
      signature toy tp1 64 (hex 4 0xA0A1A2A3) (hex 4 0xB0B1B2B3) (hex 4 0xC0C1C2C3) (hex 7 0x5369676E6D6521) =
        some ([false, false, false, true, true], p3Sig) ∧
      coverCount tp1 [false, false, false, true, true] ≤ tp1.stMax ∧
      coverCount tp1 [false, false, false, true, true] ≤ tp1.mtMax ∧ 2 < tp1.T - tp1.W := by decide +kernel

theorem witness_VerifyWritesItsVerdict :
    let s := p3Verify
    let p := s.params
    let regions := fun u : State => [(u.val 1, p.pkBytes), (u.val 3, u.val 4)]
    let short := xs [(6, 81), (5, 0xFC0)] s
    let judged := fun u : State => judge u.xof p u.attempts (u.readBytes (u.val 1) p.pkBytes)
      (u.readBytes (u.val 3) (u.val 4)) (u.readBytes (u.val 5) p.sigBytes)
    (p.valid = true ∧ s.val 6 = p.sigBytes ∧ Fits s (regions s ++ [(s.val 5, p.sigBytes)]) ∧
      judged s = some ⟨false, false, false, false⟩ ∧ judged { s with attempts := 0 } = none) ∧
    State.reset.params.valid ≠ true ∧
    (short.params.valid = true ∧ short.val 6 ≠ p.sigBytes ∧ Fits short (regions short)) ∧
    ((xs [(6, 81), (1, 0xFF8)] s).val 6 ≠ p.sigBytes ∧ ¬Fits s (regions (xs [(6, 81), (1, 0xFF8)] s))) ∧
    ((xs [(5, 0xFC0)] s).val 6 = p.sigBytes ∧ ¬Fits s (regions s ++ [((xs [(5, 0xFC0)] s).val 5, p.sigBytes)])) := by
  unfold Fits; decide +kernel

theorem witness_VerdictClassesNameTheFailures :
    let dch1 := challengeDigest toy tp1 (hex 7 0x5369676E6D6521) (sigDigest01 tp1 p3Sig) (sigSalt tp1 p3Sig)
    expandPublic toy tp1 64 (hex 4 0xA6BE2717) =
      some ([5, 81, 105, 117, 17, 43, 76, 68, 2, 21, 90, 62, 61, 120, 112], []) ∧
    challenges toy tp1 64 dch1 = some [26, 38, 18, 95, 72] ∧
    expandBitmap toy tp1 64 (sigDigestB tp1 p3Sig) = some [false, false, false, true, true] ∧
    judge toy tp1 64 (hex 9 0xA6BE2717F364519B87) (hex 7 0x5369676E6D6521) p3Sig = some ⟨true, false, true, false⟩ ∧
    judge toy tp1 64 (hex 9 0xA6BE2717F364519B07) (hex 7 0x5369676E6D6521) (p3Sig.set 16 1) =
      some ⟨false, false, true, true⟩ ∧
    judge toy tp1 64 (hex 9 0xA6BE2717F364519B07) (hex 7 0x5369676E6D6521) p3Sig =
      some ⟨false, false, false, false⟩ ∧
    (openedRounds [false, false, false, true, true])[2]? = some 2 := by decide +kernel

/-- The state after a command. -/
def after (i : Instr) (s : State) : State :=
  match exec i s with
  | .next t => t
  | _ => s

theorem exec_after (i : Instr) (s : State) : exec i s = .next (after i s) := by
  rcases exec_cases i s with ⟨_, h⟩ | ⟨_, _, h⟩ | ⟨_, _, _, _, h⟩ | h <;> simp only [after, h]

theorem witness_SignedMessagesVerify :
    (tp1.valid = true ∧ (hex 4 0xA0A1A2A3).length = tp1.seedBytes ∧ (hex 4 0xB0B1B2B3).length = tp1.seedBytes ∧
      (hex 4 0xC0C1C2C3).length = tp1.saltBytes ∧ tp1.W ≤ tp1.stMax ∧ tp1.W ≤ tp1.mtMax ∧
      publicKey toy tp1 64 (hex 4 0xA0A1A2A3) = some (hex 9 0xA6BE2717F364519B07) ∧
      signature toy tp1 64 (hex 4 0xA0A1A2A3) (hex 4 0xB0B1B2B3) (hex 4 0xC0C1C2C3) (hex 7 0x5369676E6D6521) =
        some ([false, false, false, true, true], p3Sig)) ∧
    ∃ s t u v w : State, exec (.keygen 1 2) s = .next t ∧ exec (.sign 5 2 3 4) u = .next v ∧
      (Memory.wf s.buf ∧ Memory.wf u.buf ∧ t.running = none ∧ s.err = false ∧ t.err = false ∧
      (∀ j < s.params.pkBytes, Outside [(s.val 2, s.params.skBytes)] (s.val 1 + j)) ∧
      u.params = s.params ∧ u.xofKnown = s.xofKnown ∧
      u.readBytes (u.val 2) s.params.skBytes = t.readBytes (t.val 2) s.params.skBytes ∧
      v.running = none ∧ u.err = false ∧ v.err = false ∧
      w.params = s.params ∧ w.xofKnown = s.xofKnown ∧ s.attempts ≤ w.attempts ∧ u.attempts ≤ w.attempts ∧
      w.readBytes (w.val 1) s.params.pkBytes = t.readBytes (t.val 1) s.params.pkBytes ∧ w.val 4 = u.val 4 ∧
      w.readBytes (w.val 3) (w.val 4) = u.readBytes (u.val 3) (u.val 4) ∧ w.val 6 = s.params.sigBytes ∧
      w.readBytes (w.val 5) s.params.sigBytes = v.readBytes (v.val 5) s.params.sigBytes ∧
      Fits w [(w.val 1, s.params.pkBytes), (w.val 3, w.val 4), (w.val 5, s.params.sigBytes)]) :=
  ⟨by decide +kernel, xs [(1, 0x200), (2, 0x220)] p3, _, p3Sign, _, p3Verify, exec_after _ _, exec_after _ _,
    by unfold Fits Outside; decide +kernel⟩

end Sys2Proof.Tests
end

section
/-! The registers of REG as the host reads and writes them (10_state R33, R48, R51, R68, R77; 20_memory R90): one lemma per
group of offsets for a read and for an idle write, what a write leaves unchanged, and the derived sizes. Settles O20. -/

namespace Sys2Proof.Machine

/-! ### The parameter registers by index -/

theorem Params.at_put_self (p : Params) {k : Nat} (v : Word) (hk : k < 15) : (p.put k v).at k = v := by
  interval_cases k <;> rfl

theorem Params.at_put_of_ne (p : Params) {j k : Nat} (v : Word) (h : j ≠ k) : (p.put k v).at j = p.at j := by
  unfold Params.put
  split <;> unfold Params.at <;> split <;> first | rfl | exact absurd rfl h

theorem regOf_inj {j k : Nat} (hj : j < 16) (hk : k < 16) (h : regOf j = regOf k) : j = k := by
  have := congrArg BitVec.toNat h
  simp only [regOf, BitVec.toNat_ofNat] at this
  omega

/-! ### Reads of REG, by group of offsets (10_state R77) -/

theorem State.regRead_general (s : State) {off : Nat} (aligned : off % 4 = 0) (h : 0x040 ≤ off ∧ off < 0x080) :
    s.regRead off = s.getX (regOf ((off - 0x040) / 4)) := by
  unfold State.regRead
  iterate 9 rw [if_neg (by omega)]
  rw [if_pos h]

theorem State.regRead_param (s : State) {off : Nat} (aligned : off % 4 = 0) (h : 0x080 ≤ off ∧ off < 0x0BC) :
    s.regRead off = s.params.at ((off - 0x080) / 4) := by
  unfold State.regRead
  iterate 10 rw [if_neg (by omega)]
  rw [if_pos h]

theorem State.regRead_unaligned (s : State) {off : Nat} (h : off % 4 ≠ 0) : s.regRead off = 0 := if_pos h

/-- CMD and the unlisted offsets read 0 (10_state R48, R77). -/
theorem State.regRead_unlisted (s : State) {off : Nat}
    (h : off = 0x010 ∨ (0x024 ≤ off ∧ off < 0x040) ∨ off = 0x0BC ∨ 0x0CC ≤ off) : s.regRead off = 0 := by
  by_cases aligned : off % 4 = 0
  · unfold State.regRead
    iterate 14 rw [if_neg (by omega)]
  · exact s.regRead_unaligned aligned

theorem State.regRead_pkb (s : State) : s.regRead 0x0C0 = s.derivedSize s.params.pkBytes := rfl
theorem State.regRead_skb (s : State) : s.regRead 0x0C4 = s.derivedSize s.params.skBytes := rfl
theorem State.regRead_sigb (s : State) : s.regRead 0x0C8 = s.derivedSize s.params.sigBytes := rfl

/-! ### Idle writes of REG, by group of offsets -/

theorem State.access_regWrite_general {s : State} {off : Nat} (v : Word) (idle : s.busy = false) (aligned : off % 4 = 0)
    (h : 0x040 ≤ off ∧ off < 0x080) :
    s.access (.regWrite off v) = s.setX (regOf ((off - 0x040) / 4)) v.toNat := by
  simp only [State.access, idle, Bool.false_eq_true, if_false, State.regWriteIdle]
  iterate 3 rw [if_neg (by omega)]
  rw [if_pos h]

theorem State.access_regWrite_param {s : State} {off : Nat} (v : Word) (idle : s.busy = false) (aligned : off % 4 = 0)
    (h : 0x080 ≤ off ∧ off < 0x0BC) :
    s.access (.regWrite off v) = { s with params := s.params.put ((off - 0x080) / 4) v } := by
  simp only [State.access, idle, Bool.false_eq_true, if_false, State.regWriteIdle]
  iterate 4 rw [if_neg (by omega)]
  rw [if_pos h]

/-- A write of REG other than the CMD write issues nothing: it is one plain access (10_state R41). -/
theorem hostStep_regWrite {off : Nat} (v : Word) (s : State) (h : off ≠ 0x010) :
    hostStep (.regWrite off v) s = .next (s.access (.regWrite off v)) := by
  unfold hostStep
  split
  · simp_all
  · rfl

/-! ### What a write leaves unchanged -/

/-- Every offset but those of the general registers reads the same after a register write. -/
theorem State.regRead_setX_outside (s : State) (r : Reg) (v : Nat) {o : Nat} (h : ¬(0x040 ≤ o ∧ o < 0x080)) :
    (s.setX r v).regRead o = s.regRead o := by
  simp only [State.regRead, if_neg h]
  rfl

/-- Every offset below the derived sizes but those of the parameters reads the same under another parameter set. -/
theorem State.regRead_params_outside (s : State) (p : Params) {o : Nat} (h : ¬(0x080 ≤ o ∧ o < 0x0BC)) (low : o < 0x0C0) :
    { s with params := p }.regRead o = s.regRead o := by
  have notDerived : o ≠ 0x0C0 ∧ o ≠ 0x0C4 ∧ o ≠ 0x0C8 := by omega
  obtain ⟨pkb, skb, sigb⟩ := notDerived
  simp only [State.regRead, if_neg h, if_neg pkb, if_neg skb, if_neg sigb]
  rfl

theorem State.regRead_setX_of_ne (s : State) (v : Nat) {o off : Nat} (aligned : off % 4 = 0)
    (h : 0x040 ≤ off ∧ off < 0x080) (ne : o ≠ off) :
    (s.setX (regOf ((off - 0x040) / 4)) v).regRead o = s.regRead o := by
  by_cases ho : 0x040 ≤ o ∧ o < 0x080
  · by_cases oAligned : o % 4 = 0
    · have apart : regOf ((o - 0x040) / 4) ≠ regOf ((off - 0x040) / 4) := fun e => by
        have := regOf_inj (by omega) (by omega) e
        omega
      rw [State.regRead_general _ oAligned ho, State.regRead_general _ oAligned ho, State.getX_setX_of_ne _ _ apart]
    · rw [State.regRead_unaligned _ oAligned, State.regRead_unaligned _ oAligned]
  · exact s.regRead_setX_outside _ _ ho

theorem State.regRead_put_of_ne (s : State) (v : Word) {o off : Nat} (aligned : off % 4 = 0)
    (h : 0x080 ≤ off ∧ off < 0x0BC) (ne : o ≠ off) (low : o < 0x0C0) :
    { s with params := s.params.put ((off - 0x080) / 4) v }.regRead o = s.regRead o := by
  by_cases ho : 0x080 ≤ o ∧ o < 0x0BC
  · by_cases oAligned : o % 4 = 0
    · have apart : (o - 0x080) / 4 ≠ (off - 0x080) / 4 := by omega
      rw [State.regRead_param _ oAligned ho, State.regRead_param _ oAligned ho, Params.at_put_of_ne _ _ apart]
    · rw [State.regRead_unaligned _ oAligned, State.regRead_unaligned _ oAligned]
  · exact s.regRead_params_outside _ ho low

/-- An idle write of a general register reads back, and every other offset and every byte of BUF reads as before
(10_state R33). -/
theorem State.general_readBack {s : State} {off : Nat} (v : Word) (idle : s.busy = false) (aligned : off % 4 = 0)
    (h : 0x040 ≤ off ∧ off < 0x080) :
    (s.access (.regWrite off v)).regRead off = v ∧
      (∀ o, o ≠ off → (s.access (.regWrite off v)).regRead o = s.regRead o) ∧
      ∀ a, (s.access (.regWrite off v)).byteAt a = s.byteAt a := by
  rw [State.access_regWrite_general v idle aligned h]
  refine ⟨?_, fun o ne => s.regRead_setX_of_ne _ aligned h ne, fun _ => rfl⟩
  rw [State.regRead_general _ aligned h, State.getX_setX_self, BitVec.ofNat_toNat, BitVec.setWidth_eq]

/-- An idle write of a parameter register reads back, and every other offset below the derived sizes and every byte of BUF
reads as before (10_state R51). -/
theorem State.param_readBack {s : State} {off : Nat} (v : Word) (idle : s.busy = false) (aligned : off % 4 = 0)
    (h : 0x080 ≤ off ∧ off < 0x0BC) :
    (s.access (.regWrite off v)).regRead off = v ∧
      (∀ o, o ≠ off → o < 0x0C0 → (s.access (.regWrite off v)).regRead o = s.regRead o) ∧
      ∀ a, (s.access (.regWrite off v)).byteAt a = s.byteAt a := by
  rw [State.access_regWrite_param v idle aligned h]
  refine ⟨?_, fun o ne low => s.regRead_put_of_ne _ aligned h ne low, fun _ => rfl⟩
  rw [State.regRead_param _ aligned h, Params.at_put_self _ _ (by omega)]

/-! ### The width of a modulus (00_scope R12) -/

theorem isWidth_bits (m : Nat) : IsWidth m (bits m) := by
  unfold bits
  split
  · exact ⟨by simpa, fun c hc => absurd hc (Nat.not_lt_zero c)⟩
  · have pos : m - 1 ≠ 0 := by omega
    refine ⟨?_, fun c hc => ?_⟩
    · have := Nat.lt_log2_self (n := m - 1)
      omega
    · have := (Nat.le_log2 pos).mp (Nat.le_of_lt_succ hc)
      omega

/-- A modulus has one width: with two, the smaller would lie below the bound the other asks for. -/
theorem IsWidth.unique {m v w : Nat} (hv : IsWidth m v) (hw : IsWidth m w) : v = w := by
  obtain ⟨v_fits, v_least⟩ := hv
  obtain ⟨w_fits, w_least⟩ := hw
  rcases Nat.lt_trichotomy v w with lt | eq | lt
  · exact absurd (w_least v lt) (Nat.not_lt.mpr v_fits)
  · exact eq
  · exact absurd (v_least w lt) (Nat.not_lt.mpr w_fits)

theorem IsWidth.bits_eq {m w : Nat} (h : IsWidth m w) : bits m = w := (isWidth_bits m).unique h

/-- PKQ(n) by the width of Q (00_scope R12). -/
theorem Params.pkq_of_isWidth {p : Params} {w : Nat} (h : IsWidth p.Q w) (n : Nat) : p.pkq n = (n * w + 7) / 8 := by
  rw [Params.pkq, packedBytes, h.bits_eq]

theorem bits_le {m w : Nat} (h : m ≤ 2 ^ w) : bits m ≤ w := by
  obtain ⟨-, least⟩ := isWidth_bits m
  exact Nat.le_of_not_lt fun lt => absurd (least w lt) (Nat.not_lt.mpr h)

/-! ### The derived sizes of a valid parameter set fit in 32 bits (10_state R68) -/

theorem Params.pkq_le {p : Params} (h : p.valid = true) {n : Nat} (hn : n ≤ 65535) : p.pkq n ≤ 131070 := by
  obtain ⟨-, -, -, -, -, hQ, -⟩ := Params.valid_inBounds h
  have width : bits p.Q ≤ 16 := bits_le (by omega)
  have := Nat.mul_le_mul hn width
  simp only [Params.pkq, packedBytes]
  omega

theorem Params.L_le {p : Params} (h : p.valid = true) : p.L ≤ 65535 := by
  obtain ⟨-, -, -, -, -, -, -, -, -, -, -, hN, -, -, hM, -⟩ := Params.valid_inBounds h
  unfold Params.L
  split
  · have := hM ‹_›
    omega
  · exact hN

theorem Params.recBytes_le {p : Params} (h : p.valid = true) : p.recBytes ≤ 262395 := by
  obtain ⟨-, -, -, -, -, -, -, -, -, -, -, hN, -, -, -, -, -, -, -, -, -, -, -, hdigest, -⟩ := Params.valid_inBounds h
  have hy := Params.pkq_le h hN
  have hsigma := Params.pkq_le h (Params.L_le h)
  unfold Params.recBytes
  omega

theorem Params.skBytes_le {p : Params} (h : p.valid = true) : p.skBytes ≤ 64 := by
  obtain ⟨-, -, -, hlevel, -, -, -, -, -, -, -, -, -, -, -, -, -, -, -, hseed, -⟩ := Params.valid_inBounds h
  unfold Params.skBytes
  omega

theorem Params.pkBytes_lt {p : Params} (h : p.valid = true) : p.pkBytes < 2 ^ 32 := by
  obtain ⟨-, -, -, -, -, -, -, -, -, -, -, hN, -⟩ := Params.valid_inBounds h
  have hseed := Params.skBytes_le h
  have hsyndrome := Params.pkq_le h (n := p.N - p.K) (by omega)
  unfold Params.skBytes at hseed
  unfold Params.pkBytes
  omega

/-- A signature has fewer than 2^32 bytes: R67 bounds each of its parts. -/
theorem Params.sigBytes_lt {p : Params} (h : p.valid = true) : p.sigBytes < 2 ^ 32 := by
  obtain ⟨-, -, -, -, -, -, -, -, -, -, -, -, -, -, -, -, hT, hW, -, -, -, hsalt, -, hdigest, -, hst, -, hmt⟩ :=
    Params.valid_inBounds h
  have seeds : p.stMax * p.seedBytes ≤ 10921 * 64 := Nat.mul_le_mul (hst.trans hT) (Params.skBytes_le h)
  have digests : p.mtMax * p.digestBytes ≤ 10921 * 255 := Nat.mul_le_mul (hmt.trans hT) hdigest
  have records : (p.T - p.W) * p.recBytes ≤ 10920 * 262395 := Nat.mul_le_mul (by omega) (Params.recBytes_le h)
  unfold Params.sigBytes
  omega

theorem State.derivedSize_valid {s : State} {n : Nat} (h : s.params.valid = true) (hn : n < 2 ^ 32) :
    (s.derivedSize n).toNat = n := by
  rw [State.derivedSize, if_pos h, BitVec.toNat_ofNat, Nat.mod_eq_of_lt hn]

theorem State.derivedSize_invalid {s : State} (n : Nat) (h : s.params.valid = false) : s.derivedSize n = 0 := by
  rw [State.derivedSize, h]
  rfl

/-- Settles O20: the read-back and the frame by group of offsets, the ignored writes and the zero reads, and the derived
sizes, which 32 bits hold for every valid set. -/
theorem registersReadBackAsWritten : Obligations.RegistersReadBackAsWritten := by
  refine ⟨fun s off v idle aligned group => ?_, fun s off v _ ignored => ?_, fun s off zero => ?_,
    fun s w width => ?_⟩
  · refine ⟨_, rfl, ?_⟩
    rcases group with general | param
    · obtain ⟨self, others, bytes⟩ := State.general_readBack v idle aligned general
      exact ⟨self, fun o ne _ => others o ne, bytes⟩
    · obtain ⟨self, others, bytes⟩ := State.param_readBack v idle aligned param
      exact ⟨self, fun o ne low => others o ne (by omega), bytes⟩
  · rw [hostStep_regWrite v s (by omega), s.regWrite_ignored v ignored]
  · rcases zero with unaligned | unlisted
    · exact s.regRead_unaligned unaligned
    · exact s.regRead_unlisted unlisted
  · intro p pkq
    have pkq_eq : ∀ n, p.pkq n = pkq n := Params.pkq_of_isWidth width
    rw [s.regRead_pkb, s.regRead_skb, s.regRead_sigb]
    refine ⟨fun valid => ?_, fun invalid => ?_⟩
    · have skBytes_lt : p.skBytes < 2 ^ 32 := (Params.skBytes_le valid).trans_lt (by decide)
      rw [State.derivedSize_valid valid (Params.pkBytes_lt valid), State.derivedSize_valid valid skBytes_lt,
        State.derivedSize_valid valid (Params.sigBytes_lt valid), ← pkq_eq, ← pkq_eq, ← pkq_eq]
      exact ⟨rfl, rfl, rfl⟩
    · exact ⟨State.derivedSize_invalid _ invalid, State.derivedSize_invalid _ invalid,
        State.derivedSize_invalid _ invalid⟩

end Sys2Proof.Machine
end

section
/-! What one step can do, said once; how a command ends; what an invalid parameter set does to it; and what PSEQ shows
(10_state R41, R42, R67; 43_xof R267; 60_exceptions R453). Settles O8, O16, O15 and O22. -/

namespace Sys2Proof.Machine

/-! ### One step (10_state R41, 20_memory R104) -/

theorem State.busy_eq_false_iff {s : State} : s.busy = false ↔ s.running = none := by
  simp [State.busy]

theorem State.busy_of_running {s : State} {w : Word} (running : s.running = some w) : s.busy = true := by
  simp [State.busy, running]

theorem runWord_of_decode_ok {w : Word} {i : Instr} (legal : decode w = .ok i) (s : State) :
    runWord w s = exec i s := by
  simp only [runWord, legal]

/-- A word runs the command it decodes to, or takes the fault of an illegal one (30_encoding R141, R142). -/
theorem runWord_cases {w : Word} {s t : State} (h : runWord w s = .next t) :
    (∃ i, exec i s = .next t) ∨ t = s.takeFault .illegal w := by
  unfold runWord at h
  split at h
  · exact .inl ⟨_, h⟩
  · injection h with h
    exact .inr h.symm

theorem hostStep_cmd_of_idle (w : Word) {s : State} (idle : s.running = none) :
    hostStep (.regWrite 0x010 w) s = issue w s := by
  simp [hostStep, State.busy_eq_false_iff.mpr idle]

/-- Everything one access of the host can do: what it does as an access, or the issue of a command word. -/
theorem hostStep_cases {a : HostAccess} {s t : State} (h : hostStep a s = .next t) :
    t = s.access a ∨ ∃ w, t = s.start w ∨ runWord w s = .next t := by
  unfold hostStep at h
  split at h
  · split at h
    · injection h with h
      exact .inl h.symm
    · unfold issue at h
      split at h
      · injection h with h
        exact .inr ⟨_, .inl h.symm⟩
      · exact .inr ⟨_, .inr h⟩
  · injection h with h
    exact .inl h.symm

/-- Everything one step can do. The host's script stands as `rest` once an access has been taken off it; from the state
that holds it the step does nothing more, performs an access, or starts or runs a command word. -/
theorem step_cases {s t : State} (h : step s = .next t) :
    ∃ rest, t = { s with host := rest } ∨ (∃ a, t = { s with host := rest }.access a) ∨
      ∃ w, t = { s with host := rest }.start w ∨ runWord w { s with host := rest } = .next t := by
  unfold step at h
  split at h
  · unfold idleStep at h
    split at h
    · next rest _ => exact ⟨rest, .inr ((hostStep_cases h).imp_left fun access => ⟨_, access⟩)⟩
    · injection h with h
      exact ⟨s.host, .inl h.symm⟩
  · unfold busyStep at h
    split at h
    · next rest _ =>
      split at h
      · exact ⟨rest, .inr ((hostStep_cases h).imp_left fun access => ⟨_, access⟩)⟩
      · exact ⟨s.host, .inr (.inr ⟨_, .inr h⟩)⟩
    · exact ⟨s.host, .inr (.inr ⟨_, .inr h⟩)⟩

/-- An idle machine takes the next access off the host's script. -/
theorem step_of_idle {s : State} {e : HostEvent} {rest : List HostEvent} (idle : s.running = none)
    (script : s.host = e :: rest) : step s = hostStep e.access { s with host := rest } := by
  simp only [step, idle, idleStep, script]

/-- A machine in progress runs its command word when no access of the host lands. -/
theorem step_of_running {s : State} {w : Word} (running : s.running = some w)
    (alone : accessesWhileBusy s.host = false) : step s = runWord w s := by
  simp only [step, running, busyStep]
  split
  · next script =>
    rw [script] at alone
    exact if_neg (by simpa [accessesWhileBusy] using alone)
  · rfl

/-- Settles O8: the step reduces to the issue of the word, or to its run, and the word runs the command it decodes to. -/
theorem stepRunsTheDecodedCommand : Obligations.StepRunsTheDecodedCommand := by
  intro s w i legal
  refine ⟨fun b rest idle script => ?_, fun running alone => ?_⟩
  · have issued : step s = issue w { s with host := rest } :=
      (step_of_idle idle script).trans (hostStep_cmd_of_idle w idle)
    rw [issued]
    refine ⟨fun alone => ?_, fun lands => ?_⟩
    · exact (if_neg (by simp [alone])).trans (runWord_of_decode_ok legal _)
    · exact if_pos lands
  · rw [step_of_running running alone, runWord_of_decode_ok legal]

/-! ### How a command ends -/

/-- A command that stays BUSY has no effect but on the progress fields (43_xof R267, log 5). -/
theorem State.stayBusy_kept (s : State) (w : Word) : Kept {} s { s.stayBusy w with attempts := s.attempts } where
  regs _ _ := rfl
  bytes _ _ := rfl
  flags _ _ := rfl
  vfail _ := rfl
  xof _ := ⟨rfl, rfl, rfl⟩
  entropy _ := ⟨rfl, rfl⟩
  params := rfl
  ctrl := rfl
  size := rfl
  outside := ⟨rfl, rfl, rfl, rfl⟩
  attempts := rfl

/-- Everything a command can do: end in a fault, end with its effect, or stay BUSY. -/
theorem exec_next_cases {i : Instr} {s t : State} (h : exec i s = .next t) :
    (∃ c u, t = State.takeFault u c (encode i)) ∨ (∃ u, EffectShape s u ∧ t = u.complete) ∨
      t = s.stayBusy (encode i) := by
  rcases exec_cases i s with ⟨c, fault⟩ | ⟨u, shape, effect⟩ | ⟨c, u, -, -, late⟩ | pending
  · exact .inl ⟨c, s, Host.Outcome.next.inj (h.symm.trans fault)⟩
  · exact .inr (.inl ⟨u, shape, Host.Outcome.next.inj (h.symm.trans effect)⟩)
  · exact .inl ⟨c, u, Host.Outcome.next.inj (h.symm.trans late)⟩
  · exact .inr (.inr (Host.Outcome.next.inj (h.symm.trans pending)))

/-- Settles O16: a fault and an effect end the command, and a command that stays BUSY has kept everything else. -/
theorem commandEndsOrStaysBusy : Obligations.CommandEndsOrStaysBusy := by
  intro i s t h
  rcases exec_next_cases h with ⟨c, u, rfl⟩ | ⟨u, -, rfl⟩ | rfl
  · exact .inl ⟨u.takeFault_running c _, u.takeFault_done c _, u.takeFault_pseq c _⟩
  · exact .inl ⟨u.complete_running, u.complete_done, u.complete_pseq⟩
  · exact .inr ⟨s.stayBusy_running _, s.stayBusy_status _, s.stayBusy_attempts _, s.stayBusy_kept _⟩

/-! ### An invalid parameter set (10_state R67) -/

/-- A command that completes with an effect of the shape every meaning has ends without a fault. -/
theorem EffectShape.ended {s u : State} (shape : EffectShape s u) : Ended s u.complete where
  busy := u.complete_running
  pseq := u.complete_pseq
  done := u.complete_done
  err := u.complete_err.trans (congrArg (·.getLsbD 2) shape.status)
  ovr := u.complete_ovr.trans (congrArg (·.getLsbD 3) shape.status)
  errcode := shape.errcode
  errinfo := shape.errinfo

theorem EffectShape.setX (s : State) (r : Reg) (v : Nat) : EffectShape s (s.setX r v) :=
  { EffectShape.refl s with }

/-- The outcome of a command whose first test is `ParamsValid`. -/
def TestsParams (i : Instr) (s : State) (o : Host.Outcome State Fault Refusal) : Prop :=
  ∃ rest r, o = runCommand i s (s.paramCheck :: rest) r

theorem TestsParams.fault {i : Instr} {s : State} {o : Host.Outcome State Fault Refusal} (tests : TestsParams i s o)
    (invalid : s.params.valid = false) : o = .next (s.takeFault .param (encode i)) := by
  obtain ⟨rest, r, rfl⟩ := tests
  exact runCommand_fault i s r (firstFault_cons_false _ rest invalid)

theorem runCommand_testsParams (i : Instr) (s : State) (rest : List Check) (r : Result) :
    TestsParams i s (runCommand i s (s.paramCheck :: rest) r) := ⟨rest, r, rfl⟩

theorem scalarBinary_testsParams (i : Instr) (m : Nat) (f : Nat → Nat → Nat) (a b c : Reg) (s : State) :
    TestsParams i s (scalarBinary i m f a b c s) := runCommand_testsParams ..

theorem scalarUnary_testsParams (i : Instr) (bound : Nat) (f : Nat → Nat) (a b : Reg) (s : State) :
    TestsParams i s (scalarUnary i bound f a b s) := runCommand_testsParams ..

theorem scalarInverse_testsParams (i : Instr) (m : Nat) (a b : Reg) (s : State) :
    TestsParams i s (scalarInverse i m a b s) := runCommand_testsParams ..

theorem vectorBinary_testsParams (i : Instr) (m : Nat) (f : List Nat → List Nat → List Nat) (a b c d : Reg)
    (s : State) : TestsParams i s (vectorBinary i m f a b c d s) := by
  unfold vectorBinary
  exact runCommand_testsParams ..

theorem vectorUnary_testsParams (i : Instr) (bound : Nat) (f : Nat → Nat) (a b d : Reg) (s : State) :
    TestsParams i s (vectorUnary i bound f a b d s) := by
  unfold vectorUnary
  exact runCommand_testsParams ..

theorem sampleCommand_testsParams (i : Instr) (m off : Nat) (a d : Reg) (s : State) :
    TestsParams i s (sampleCommand i m off a d s) := runCommand_testsParams ..

/-- The commands whose first test is `ParamsValid`: NOP and the moves test nothing, EXPZ, PACK and UNPACK test their word
before it (30_encoding R135, R143). -/
def paramsFirst : Instr → Bool
  | .nop | .movi _ _ | .movhi _ _ | .expz _ _ _ | .pack _ _ _ _ | .unpack _ _ _ _ => false
  | _ => true

theorem exec_testsParams {i : Instr} (first : paramsFirst i = true) (s : State) : TestsParams i s (exec i s) := by
  unfold exec
  cases i with
  | nop | movi _ _ | movhi _ _ | expz _ _ _ | pack _ _ _ _ | unpack _ _ _ _ => cases first
  | fqadd _ _ _ | fqsub _ _ _ | fqmul _ _ _ | fzadd _ _ _ | fzsub _ _ _ | fzmul _ _ _ =>
    exact scalarBinary_testsParams ..
  | fqnorm _ _ | r2f _ _ | fznorm _ _ => exact scalarUnary_testsParams ..
  | fqinv _ _ | fzinv _ _ => exact scalarInverse_testsParams ..
  | vqadd _ _ _ _ | vqsub _ _ _ _ | vqmul _ _ _ _ | vzsub _ _ _ _ => exact vectorBinary_testsParams ..
  | vqnorm _ _ _ | vznorm _ _ _ | vr2f _ _ _ => exact vectorUnary_testsParams ..
  | smpq _ _ | smpqs _ _ | smpz _ _ => exact sampleCommand_testsParams ..
  | _ =>
    simp only [execVqsca, execVingrp, execVf2r, execSynq, execSynr, execXsqz, execStbuild, execStdisc, execStreb,
      execMtroot, execMtproof, execMtrecomp]
    exact runCommand_testsParams ..

/-- A test of the word that has passed leaves `ParamsValid` as the first failing one. -/
theorem firstFault_param_after {s : State} (c : FaultCode) {passed : Bool} (rest : List Check) (legal : passed = true)
    (invalid : s.params.valid = false) : firstFault ((c, passed) :: s.paramCheck :: rest) = some .param :=
  (firstFault_cons_true c _ legal).trans (firstFault_cons_false _ rest invalid)

theorem execPack_faultsWith_param (a b d : Reg) {sel : Sel} {s : State} (legal : decide (sel.toNat ≤ 1) = true)
    (invalid : s.params.valid = false) : FaultsWith (.pack a b d sel) s .param :=
  runCommand_fault (.pack a b d sel) s (.effect _) (firstFault_param_after _ _ legal invalid)

theorem execUnpack_faultsWith_param (a b d : Reg) {sel : Sel} {s : State} (legal : decide (sel.toNat ≤ 1) = true)
    (invalid : s.params.valid = false) : FaultsWith (.unpack a b d sel) s .param :=
  runCommand_fault (.unpack a b d sel) s (.effect _) (firstFault_param_after _ _ legal invalid)

/-- EXPZ is an illegal word in the RSDP variant, before any other test (30_encoding R143). -/
theorem execExpz_faultsWith (a b c : Reg) {s : State} (invalid : s.params.valid = false) :
    FaultsWith (.expz a b c) s (if s.params.mode.getLsbD 0 then .param else .illegal) := by
  cases variant : s.params.mode.getLsbD 0 with
  | true => exact runCommand_fault (.expz a b c) s (.effect _) (firstFault_param_after _ _ variant invalid)
  | false => exact runCommand_fault (.expz a b c) s (.effect _) (firstFault_cons_false _ _ variant)

/-- Settles O15: the moves test nothing, EXPZ, PACK and UNPACK test their word first, every other command tests the
parameter set first. -/
theorem invalidParametersFaultFirst : Obligations.InvalidParametersFaultFirst := by
  intro i s invalid wellFormed
  cases i with
  | nop => exact ⟨_, rfl, (EffectShape.refl s).ended⟩
  | movi a imm => exact ⟨_, rfl, (EffectShape.setX s a _).ended⟩
  | movhi a imm => exact ⟨_, rfl, (EffectShape.setX s a _).ended⟩
  | expz a b c => exact execExpz_faultsWith a b c invalid
  | pack a b d sel => exact execPack_faultsWith_param a b d wellFormed invalid
  | unpack a b d sel => exact execUnpack_faultsWith_param a b d wellFormed invalid
  | _ => exact (exec_testsParams rfl s).fault invalid

/-! ### PSEQ (10_state R42, 47_protocol R399) -/

theorem pseqOp_le (w : Word) : pseqOp w ≤ 3 := by
  unfold pseqOp
  split <;> decide

theorem pseqWord_toNat {op step : Nat} (running : op ≠ 0) (hop : op ≤ 3) (hstep : step ≤ 7) :
    (pseqWord op step).toNat = op + 16 * step := by
  rw [pseqWord, if_neg running, BitVec.toNat_ofNat, Nat.mod_eq_of_lt (by omega)]

theorem State.regRead_pseq (s : State) : s.regRead 0x01C = s.pseqRead := rfl

theorem State.pseqRead_of_pseq_zero {s : State} (zero : s.pseq = 0) : s.pseqRead = 0 := by
  simp [State.pseqRead, zero]

/-- While a protocol command runs, the read shows its OP and a drawn STEP. -/
theorem State.pseqRead_of_running {s : State} {op : Nat} (busy : s.busy = true) (stored : s.pseq = pseqWord op 1)
    (running : op ≠ 0) (hop : op ≤ 3) :
    s.pseqRead = pseqWord op (1 + Config.busyStep s.freeCount % pseqSteps op) := by
  have op_eq : s.pseq.toNat % 4 = op := by
    rw [stored, pseqWord_toNat running hop (by decide)]
    omega
  simp only [State.pseqRead, op_eq, busy, Bool.true_and, bne_iff_ne, if_pos running]

/-- Settles O22: the stored PSEQ is 0 or names the protocol command, and the drawn step is one of its steps. -/
theorem pseqShowsTheRunningProtocolCommand : Obligations.PseqShowsTheRunningProtocolCommand := by
  intro s ok
  refine ⟨fun idle => ?_, fun w running other => ?_, fun w running protocol => ?_⟩
  · exact State.pseqRead_of_pseq_zero (ok.pseqIdle idle)
  · refine State.pseqRead_of_pseq_zero ((ok.pseqBusy w running).trans ?_)
    rw [other]
    rfl
  · have drawn : Config.busyStep s.freeCount % pseqSteps (pseqOp w) < pseqSteps (pseqOp w) :=
      Nat.mod_lt _ (by unfold pseqSteps; split <;> decide)
    have steps_le : pseqSteps (pseqOp w) ≤ 7 := by unfold pseqSteps; split <;> decide
    refine ⟨1 + Config.busyStep s.freeCount % pseqSteps (pseqOp w), Nat.le_add_right 1 _, ?_, ?_⟩
    · change _ ≤ pseqSteps (pseqOp w)
      omega
    · rw [s.regRead_pseq, State.pseqRead_of_running (State.busy_of_running running) (ok.pseqBusy w running) protocol
        (pseqOp_le w), pseqWord_toNat protocol (pseqOp_le w) (by omega)]

end Sys2Proof.Machine
end

section
/-! The control registers stay safe: one lemma per operation of the sequencer and of the host port, one per command, and
the step (10_state R42 to R50, R69; 60_exceptions R451, R457). Settles O10. -/

namespace Sys2Proof.Machine

/-! ### The tests of a command -/

theorem firstFault_eq_none_iff {checks : List Check} : firstFault checks = none ↔ ∀ c ∈ checks, c.2 = true := by
  induction checks with
  | nil => simp
  | cons c rest ih =>
    obtain ⟨code, ok⟩ := c
    cases ok <;> simp [firstFault, ih]

/-- A command that passes its tests finds the XOF context in the phase it asks for (43_xof R259). -/
theorem xph_of_firstFault_eq_none {s : State} {ph : Phase} {checks : List Check} (passed : firstFault checks = none)
    (tested : s.phaseCheck ph ∈ checks) : s.xph = ph :=
  eq_of_beq (firstFault_eq_none_iff.mp passed _ tested)

/-! ### Reserved bits -/

theorem setBit_and_eq_zero {w mask : Word} {k : Nat} (b : Bool) (reserved : w &&& mask = 0)
    (free : mask.getLsbD k = false) : setBit w k b &&& mask = 0 := by
  refine BitVec.eq_of_getLsbD_eq fun j hj => ?_
  have old := congrArg (·.getLsbD j) reserved
  rw [BitVec.getLsbD_and, setBit_getLsbD]
  split
  · next same => simp [same.1, free]
  · simpa using old

theorem and_and_eq_zero {w mask : Word} (v : Word) (reserved : w &&& mask = 0) : w &&& v &&& mask = 0 := by
  rw [BitVec.and_assoc, BitVec.and_comm v, ← BitVec.and_assoc, reserved]
  exact BitVec.zero_and

theorem Verdict.toWord_reserved (v : Verdict) : v.toWord &&& 0xFFFFFFF0#32 = 0 := by
  obtain ⟨malformed, membership, commitment, structural⟩ := v
  revert malformed membership commitment structural
  decide

/-- VERIFY accepts exactly when VFAIL is 0 (47_protocol R394). -/
theorem Verdict.toWord_of_accepts {v : Verdict} (accepts : v.accepts = true) : v.toWord = 0 := by
  obtain ⟨malformed, membership, commitment, structural⟩ := v
  simp only [Verdict.accepts, Bool.and_eq_true, Bool.not_eq_true'] at accepts
  obtain ⟨⟨⟨rfl, rfl⟩, rfl⟩, rfl⟩ := accepts
  rfl

theorem State.clearStatus_err (s : State) (v : Word) : (s.clearStatus v).err = (s.err && !v.getLsbD 2) := by
  simp [State.err]

/-! ### Each operation keeps the control registers safe -/

section Operations

variable {s : State} (ok : ControlOk s)
include ok

theorem ControlOk.setX (r : Reg) (v : Nat) : ControlOk (s.setX r v) := { ok with }

theorem ControlOk.writeBytes (a : Nat) (bs : Bytes) : ControlOk (s.writeBytes a bs) := { ok with }

theorem ControlOk.writeElems (a : Nat) (vs : List Nat) : ControlOk (s.writeElems a vs) := { ok with }

theorem ControlOk.entropyNext : ControlOk s.entropyNext := { ok with }

/-- A write of a flag other than ACC. -/
theorem ControlOk.setFlag (k : Nat) (b : Bool) (inUse : (0xFFFFFFF0#32).getLsbD k = false) (notAcc : 0 ≠ k) :
    ControlOk { s with flags := setBit s.flags k b } :=
  { ok with
    flags := setBit_and_eq_zero b ok.flags inUse
    accepted := fun acc => ok.accepted (by
      have acc : (setBit s.flags k b).getLsbD 0 = true := acc
      rwa [setBit_getLsbD, if_neg fun same => notAcc same.1] at acc) }

theorem ControlOk.setGrp (b : Bool) : ControlOk (s.setGrp b) := ok.setFlag 1 b rfl (by decide)

theorem ControlOk.setCan (b : Bool) : ControlOk (s.setCan b) := ok.setFlag 2 b rfl (by decide)

theorem ControlOk.setStr (b : Bool) : ControlOk (s.setStr b) := ok.setFlag 3 b rfl (by decide)

theorem ControlOk.xofOpen : ControlOk s.xofOpen :=
  { ok with idleContext := fun idle => (nomatch idle), absorbing := fun _ => rfl }

/-- Bytes are absorbed in the phase ABSORB only (43_xof R253). -/
theorem ControlOk.xofAbsorb (absorb : s.xph = .absorb) (bs : Bytes) : ControlOk (s.xofAbsorb bs) :=
  { ok with idleContext := fun idle => nomatch absorb.symm.trans idle }

theorem ControlOk.xofFinish : ControlOk s.xofFinish :=
  { ok with idleContext := fun idle => (nomatch idle), absorbing := fun absorb => (nomatch absorb) }

/-- The stream position moves in the phase SQUEEZE only (43_xof R256, R262). -/
theorem ControlOk.setXpos (squeeze : s.xph = .squeeze) (p : Nat) : ControlOk (s.setXpos p) :=
  { ok with
    idleContext := fun idle => nomatch squeeze.symm.trans idle
    absorbing := fun absorb => nomatch squeeze.symm.trans absorb }

theorem ControlOk.xofClear : ControlOk s.xofClear :=
  { ok with idleContext := fun _ => ⟨rfl, rfl⟩, absorbing := fun _ => rfl }

/-- VERIFY writes ACC and VFAIL together (47_protocol R394). -/
theorem ControlOk.conclude (v : Verdict) : ControlOk (s.conclude v) :=
  { ok.xofClear with
    flags := setBit_and_eq_zero v.accepts ok.flags rfl
    vfail := v.toWord_reserved
    accepted := fun acc => v.toWord_of_accepts (by
      have acc : (setBit s.flags 0 v.accepts).getLsbD 0 = true := acc
      rwa [setBit_getLsbD, if_pos (by decide)] at acc) }

theorem ControlOk.complete : ControlOk s.complete :=
  { ok with
    status := setBit_and_eq_zero true ok.status rfl
    noFault := fun err => ok.noFault (s.complete_err ▸ err)
    fault := fun err => ok.fault (s.complete_err ▸ err)
    pseqIdle := fun _ => rfl
    pseqBusy := fun _ running => nomatch running }

/-- A fault while ERR is 1 only completes; else it is recorded (60_exceptions R452, R454). -/
theorem ControlOk.takeFault (c : FaultCode) (w : Word) : ControlOk (s.takeFault c w) := by
  have err := s.takeFault_err c w
  unfold State.takeFault at err ⊢
  split at err
  · next kept => rw [if_pos kept]; exact ok.complete
  · next first =>
    rw [if_neg first]
    exact
      { ok.complete with
        status := setBit_and_eq_zero true ok.complete.status rfl
        noFault := fun noErr => nomatch err.symm.trans noErr
        fault := fun _ => ⟨c, rfl⟩ }

theorem ControlOk.start (w : Word) : ControlOk (s.start w) :=
  { ok with
    pseqIdle := fun idle => nomatch idle
    pseqBusy := fun _ running => Option.some.inj running ▸ rfl }

theorem ControlOk.stayBusy (w : Word) : ControlOk (s.stayBusy w) := { ok.start w with }

theorem ControlOk.setOvr : ControlOk s.setOvr :=
  have err : s.setOvr.err = s.err := setBit_getLsbD s.status 3 2 true
  { ok with
    status := setBit_and_eq_zero true ok.status rfl
    noFault := fun noErr => ok.noFault (err ▸ noErr)
    fault := fun isErr => ok.fault (err ▸ isErr) }

/-- The host's write of STATUS clears the fault record with ERR, and keeps it with ERR (60_exceptions R455). -/
theorem ControlOk.clearStatus (v : Word) : ControlOk (s.clearStatus v) := by
  have err := s.clearStatus_err v
  have status : (s.clearStatus v).status &&& 0xFFFFFFF1#32 = 0 := and_and_eq_zero _ ok.status
  cases clears : v.getLsbD 2 with
  | true =>
    rw [clears, Bool.not_true, Bool.and_false] at err
    exact
      { ok with
        status := status
        noFault := fun _ => ⟨if_pos clears, if_pos clears⟩
        fault := fun isErr => nomatch err.symm.trans isErr }
  | false =>
    rw [clears, Bool.not_false, Bool.and_true] at err
    have errcode : (s.clearStatus v).errcode = s.errcode := if_neg (Bool.eq_false_iff.mp clears)
    have errinfo : (s.clearStatus v).errinfo = s.errinfo := if_neg (Bool.eq_false_iff.mp clears)
    exact
      { ok with
        status := status
        noFault := fun noErr => errcode ▸ errinfo ▸ ok.noFault (err ▸ noErr)
        fault := fun isErr => errcode ▸ ok.fault (err ▸ isErr) }

omit ok in
theorem ControlOk.reset : ControlOk State.reset where
  ctrl := by decide
  status := by decide
  flags := by decide
  vfail := by decide
  noFault _ := ⟨rfl, rfl⟩
  fault err := absurd err (by decide)
  pseqIdle _ := rfl
  pseqBusy _ running := nomatch running
  accepted _ := rfl
  idleContext _ := ⟨rfl, rfl⟩
  absorbing _ := rfl

omit ok in
theorem ControlOk.resetBlock (s : State) : ControlOk s.resetBlock := { ControlOk.reset with }

/-- A write of CTRL resets, or stores IE and EIE (10_state R44). -/
theorem ControlOk.ctrlWrite (v : Word) : ControlOk (s.ctrlWrite v) := by
  unfold State.ctrlWrite
  split
  · exact ControlOk.resetBlock s
  · exact { ok with ctrl := by rw [BitVec.and_assoc]; exact BitVec.and_zero }

theorem ControlOk.regWriteIdle (off : Nat) (v : Word) : ControlOk (s.regWriteIdle off v) := by
  unfold State.regWriteIdle
  split; · exact ok
  split; · exact ok.ctrlWrite v
  split; · exact ok.clearStatus v
  split; · exact ok.setX _ _
  split
  · exact { ok with }
  · exact ok

theorem ControlOk.regWriteBusy (off : Nat) (v : Word) : ControlOk (s.regWriteBusy off v) := by
  rcases s.regWriteBusy_cases off v with e | e | e | e <;> rw [e]
  · exact ok
  · exact ok.setOvr
  · exact ok.ctrlWrite v
  · exact ok.clearStatus v

theorem ControlOk.afterRegRead (off : Nat) : ControlOk (s.afterRegRead off) := by
  unfold State.afterRegRead
  split
  · exact { ok with }
  · exact ok

theorem ControlOk.afterBufRead (addr n : Nat) : ControlOk (s.afterBufRead addr n) := by
  unfold State.afterBufRead
  split
  · exact { ok with }
  · exact ok

theorem ControlOk.bufWrite (addr : Nat) (bs : Bytes) : ControlOk (s.bufWrite addr bs) := by
  unfold State.bufWrite
  split
  · split
    · exact ok.setOvr
    · exact ok.writeBytes addr bs
  · exact ok

theorem ControlOk.access (a : HostAccess) : ControlOk (s.access a) := by
  cases a with
  | regRead off => exact { ok.afterRegRead off with }
  | regWrite off v =>
    change ControlOk (if s.busy then s.regWriteBusy off v else s.regWriteIdle off v)
    split
    · exact ok.regWriteBusy off v
    · exact ok.regWriteIdle off v
  | bufRead addr n => exact { ok.afterBufRead addr n with }
  | bufWrite addr bs => exact ok.bufWrite addr bs
  | hardReset => exact ControlOk.resetBlock s

end Operations

/-! ### Each command keeps the control registers safe -/

/-- The state an outcome answers has safe control registers. -/
def KeepsControl (o : Host.Outcome State Fault Refusal) : Prop := ∀ t, o = .next t → ControlOk t

/-- The state a result holds has safe control registers. -/
def Result.KeepsControl : Result → Prop
  | .effect u => ControlOk u
  | .late _ u => ControlOk u
  | .pending => True

section Commands

variable {s : State} (ok : ControlOk s)
include ok

/-- The shared frame: a command need only look at its result, and there at its passed tests. -/
theorem runCommand_keepsControl {i : Instr} {checks : List Check} {r : Result}
    (result : firstFault checks = none → r.KeepsControl) : KeepsControl (runCommand i s checks r) := by
  intro t h
  rcases runCommand_cases h with ⟨c, -, rfl⟩ | ⟨passed, ⟨u, rfl, rfl⟩ | ⟨c, u, rfl, rfl⟩ | ⟨rfl, rfl⟩⟩
  · exact ok.takeFault c _
  · exact ControlOk.complete (result passed)
  · exact ControlOk.takeFault (result passed) c _
  · exact ok.stayBusy _

theorem scalarBinary_keepsControl (i : Instr) (m : Nat) (f : Nat → Nat → Nat) (a b c : Reg) :
    KeepsControl (scalarBinary i m f a b c s) :=
  runCommand_keepsControl ok fun _ => ok.setX a _

theorem scalarUnary_keepsControl (i : Instr) (bound : Nat) (f : Nat → Nat) (a b : Reg) :
    KeepsControl (scalarUnary i bound f a b s) :=
  runCommand_keepsControl ok fun _ => ok.setX a _

theorem scalarInverse_keepsControl (i : Instr) (m : Nat) (a b : Reg) : KeepsControl (scalarInverse i m a b s) :=
  runCommand_keepsControl ok fun _ => ok.setX a _

theorem vectorBinary_keepsControl (i : Instr) (m : Nat) (f : List Nat → List Nat → List Nat) (a b c d : Reg) :
    KeepsControl (vectorBinary i m f a b c d s) := by
  unfold vectorBinary
  exact runCommand_keepsControl ok fun _ => ok.writeElems _ _

theorem vectorUnary_keepsControl (i : Instr) (bound : Nat) (f : Nat → Nat) (a b d : Reg) :
    KeepsControl (vectorUnary i bound f a b d s) := by
  unfold vectorUnary
  exact runCommand_keepsControl ok fun _ => ok.writeElems _ _

/-- A sampling command moves XPOS, behind its test of the phase SQUEEZE (43_xof R262). -/
theorem sampleCommand_keepsControl (i : Instr) (m off : Nat) (a d : Reg) :
    KeepsControl (sampleCommand i m off a d s) := by
  unfold sampleCommand
  refine runCommand_keepsControl ok fun passed => ?_
  have squeeze : s.xph = .squeeze := xph_of_firstFault_eq_none passed (by simp)
  split
  · trivial
  · exact (ok.writeElems _ _).setXpos squeeze _

theorem execXabs_keepsControl (b c : Reg) : KeepsControl (execXabs b c s) :=
  runCommand_keepsControl ok fun passed => ok.xofAbsorb (xph_of_firstFault_eq_none passed (by simp)) _

theorem execXabsi_keepsControl (imm : Imm16) : KeepsControl (execXabsi imm s) :=
  runCommand_keepsControl ok fun passed => ok.xofAbsorb (xph_of_firstFault_eq_none passed (by simp)) _

theorem execXsqz_keepsControl (a b : Reg) : KeepsControl (execXsqz a b s) := by
  unfold execXsqz
  refine runCommand_keepsControl ok fun passed => ?_
  have squeeze : s.xph = .squeeze := xph_of_firstFault_eq_none passed (by simp)
  exact (ok.writeBytes _ _).setXpos squeeze _

theorem execFwexp_keepsControl (a b : Reg) : KeepsControl (execFwexp a b s) := by
  unfold execFwexp
  refine runCommand_keepsControl ok fun _ => ?_
  split
  · trivial
  · exact (ok.writeBytes _ _).xofClear

/-- STREB writes its destination or leaves it; STR and the context are written either way (45_seed_tree R325). -/
theorem execStreb_keepsControl (a b c d e : Reg) : KeepsControl (execStreb a b c d e s) := by
  unfold execStreb
  refine runCommand_keepsControl ok fun _ => ControlOk.xofClear (ControlOk.setStr ?_ _)
  split
  · exact ok.writeBytes _ _
  · exact ok

/-- MTRECOMP writes its destination or leaves it; STR and the context are written either way (46_merkle R354). -/
theorem execMtrecomp_keepsControl (a b c d e : Reg) : KeepsControl (execMtrecomp a b c d e s) := by
  unfold execMtrecomp
  refine runCommand_keepsControl ok fun _ => ControlOk.xofClear (ControlOk.setStr ?_ _)
  split
  · exact ok.writeBytes _ _
  · exact ok

theorem execKeygen_keepsControl (a b : Reg) : KeepsControl (execKeygen a b s) := by
  unfold execKeygen
  refine runCommand_keepsControl ok fun _ => ?_
  split
  · exact ok.entropyNext
  · split
    · trivial
    · exact ((ok.entropyNext.writeBytes _ _).writeBytes _ _).xofClear

theorem execSign_keepsControl (a b c d : Reg) : KeepsControl (execSign a b c d s) := by
  unfold execSign
  refine runCommand_keepsControl ok fun _ => ?_
  split
  · exact ok.entropyNext
  · split
    · exact ok.entropyNext.entropyNext
    · split
      · trivial
      · split
        · exact (ok.entropyNext.entropyNext.writeBytes _ _).xofClear
        · exact ok.entropyNext.entropyNext

theorem execVerify_keepsControl (a b c d e : Reg) : KeepsControl (execVerify a b c d e s) := by
  unfold execVerify
  refine runCommand_keepsControl ok fun _ => ?_
  split
  · split
    · trivial
    · exact ok.conclude _
  · exact ok.conclude _

/-- Every command keeps the control registers safe; the commands with one plain effect are grouped by what they write. -/
theorem exec_keepsControl (i : Instr) : KeepsControl (exec i s) := by
  unfold exec
  cases i with
  | nop => exact runCommand_keepsControl ok fun _ => ok
  | movi _ _ | movhi _ _ => exact runCommand_keepsControl ok fun _ => ok.setX _ _
  | fqadd _ _ _ | fqsub _ _ _ | fqmul _ _ _ | fzadd _ _ _ | fzsub _ _ _ | fzmul _ _ _ =>
    exact scalarBinary_keepsControl ok _ _ _ _ _ _
  | fqnorm _ _ | r2f _ _ | fznorm _ _ => exact scalarUnary_keepsControl ok _ _ _ _ _
  | fqinv _ _ | fzinv _ _ => exact scalarInverse_keepsControl ok _ _ _ _
  | ingrp _ _ | f2r _ _ => exact runCommand_keepsControl ok fun _ => (ok.setX _ _).setGrp _
  | vqadd _ _ _ _ | vqsub _ _ _ _ | vqmul _ _ _ _ | vzsub _ _ _ _ => exact vectorBinary_keepsControl ok _ _ _ _ _ _ _
  | vqnorm _ _ _ | vznorm _ _ _ | vr2f _ _ _ => exact vectorUnary_keepsControl ok _ _ _ _ _ _
  | vingrp _ _ _ =>
    unfold execVingrp
    exact runCommand_keepsControl ok fun _ => (ok.setX _ _).setGrp _
  | vf2r _ _ _ =>
    unfold execVf2r
    exact runCommand_keepsControl ok fun _ => (ok.writeElems _ _).setGrp _
  | vqsca _ _ _ _ _ | synq _ _ _ | synr _ _ _ | expz _ _ _ =>
    simp only [execVqsca, execSynq, execSynr, execExpz]
    exact runCommand_keepsControl ok fun _ => ok.writeElems _ _
  | xinit => exact runCommand_keepsControl ok fun _ => ok.xofOpen
  | xabs b c => exact execXabs_keepsControl ok b c
  | xabsi imm => exact execXabsi_keepsControl ok imm
  | xfin => exact runCommand_keepsControl ok fun _ => ok.xofFinish
  | xsqz a b => exact execXsqz_keepsControl ok a b
  | smpq _ _ | smpqs _ _ | smpz _ _ => exact sampleCommand_keepsControl ok _ _ _ _ _
  | fwexp a b => exact execFwexp_keepsControl ok a b
  | pack _ _ _ _ =>
    unfold execPack
    exact runCommand_keepsControl ok fun _ => ok.writeBytes _ _
  | unpack _ _ _ _ =>
    unfold execUnpack
    exact runCommand_keepsControl ok fun _ => (ok.writeElems _ _).setCan _
  | hash _ _ _ | stbuild _ _ _ | mtroot _ _ =>
    simp only [execHash, execStbuild, execMtroot]
    exact runCommand_keepsControl ok fun _ => (ok.writeBytes _ _).xofClear
  | stdisc _ _ _ _ _ | mtproof _ _ _ _ =>
    simp only [execStdisc, execMtproof]
    exact runCommand_keepsControl ok fun _ => ((ok.writeBytes _ _).setX _ _).xofClear
  | streb a b c d e => exact execStreb_keepsControl ok a b c d e
  | mtrecomp a b c d e => exact execMtrecomp_keepsControl ok a b c d e
  | keygen a b => exact execKeygen_keepsControl ok a b
  | sign a b c d => exact execSign_keepsControl ok a b c d
  | verify a b c d e => exact execVerify_keepsControl ok a b c d e

theorem runWord_keepsControl (w : Word) : KeepsControl (runWord w s) := by
  intro t h
  rcases runWord_cases h with ⟨i, run⟩ | rfl
  · exact exec_keepsControl ok i t run
  · exact ok.takeFault .illegal w

end Commands

/-- Settles O10: a step is an access of the host, the start of a command word or the run of one, and each keeps the
control registers safe. -/
theorem stepKeepsControlRegistersSafe : Obligations.StepKeepsControlRegistersSafe := by
  intro s t ok h
  obtain ⟨rest, cases⟩ := step_cases h
  have taken : ControlOk { s with host := rest } := { ok with }
  rcases cases with rfl | ⟨a, rfl⟩ | ⟨w, rfl | run⟩
  · exact taken
  · exact taken.access a
  · exact taken.start w
  · exact runWord_keepsControl taken w t run

end Sys2Proof.Machine
end

section
/-! The host's accesses of BUF while idle, and its writes while a command runs (20_memory R90, R95, R104). Settles O21
and O19. -/

namespace Sys2Proof.Machine

theorem State.inBuf_iff {s : State} {addr n : Nat} : s.inBuf addr n = true ↔ 1 ≤ n ∧ addr + n ≤ s.bufBytes :=
  decide_eq_true_iff

theorem State.inBuf_of_le {s : State} {addr n : Nat} (some : 1 ≤ n) (inside : addr + n ≤ s.bufBytes) :
    s.inBuf addr n = true := State.inBuf_iff.mpr ⟨some, inside⟩

theorem State.inBuf_of_lt {s : State} {addr n : Nat} (outside : s.bufBytes < addr + n) : s.inBuf addr n = false :=
  Bool.eq_false_iff.mpr fun inside => Nat.not_le.mpr outside (State.inBuf_iff.mp inside).2

/-! ### What a host write of BUF does -/

theorem State.bufWrite_outside {s : State} {addr : Nat} {bs : Bytes} (outside : s.inBuf addr bs.length = false) :
    s.bufWrite addr bs = s := if_neg (Bool.eq_false_iff.mp outside)

theorem State.bufWrite_of_idle {s : State} {addr : Nat} {bs : Bytes} (idle : s.busy = false)
    (inside : s.inBuf addr bs.length = true) : s.bufWrite addr bs = s.writeBytes addr bs :=
  (if_pos inside).trans (if_neg (Bool.eq_false_iff.mp idle))

theorem State.bufWrite_of_busy {s : State} {addr : Nat} {bs : Bytes} (busy : s.busy = true)
    (inside : s.inBuf addr bs.length = true) : s.bufWrite addr bs = s.setOvr :=
  (if_pos inside).trans (if_pos busy)

/-! ### Reading back -/

theorem State.bufRead_outside {s : State} {addr n : Nat} (outside : s.inBuf addr n = false) :
    s.bufRead addr n = List.replicate n 0 := if_neg (Bool.eq_false_iff.mp outside)

theorem State.bufRead_of_idle {s : State} {addr n : Nat} (idle : s.busy = false) (inside : s.inBuf addr n = true) :
    s.bufRead addr n = s.readBytes addr n :=
  (if_pos inside).trans (if_neg (Bool.eq_false_iff.mp idle))

/-- `MemRead` after `MemWrite` of the same run (00_scope R15). -/
theorem State.readBytes_writeBytes_self {s : State} (canonical : Memory.wf s.buf) (addr : Nat) (bs : Bytes) :
    (s.writeBytes addr bs).readBytes addr bs.length = bs := by
  refine List.ext_getElem (State.readBytes_length ..) fun j _ hj => ?_
  have readJ : ((s.writeBytes addr bs).readBytes addr bs.length)[j]'(by simpa using hj)
      = (s.writeBytes addr bs).byteAt (addr + j) := by simp [State.readBytes, Memory.read, State.byteAt]
  rw [readJ, State.byteAt_writeBytes_inside canonical addr bs hj]

/-- A write of BUF changes no byte outside its run, and nothing else (00_scope R15). -/
theorem State.writeBytes_kept (s : State) (addr : Nat) (bs : Bytes) :
    Kept { regions := [(addr, bs.length)] } s (s.writeBytes addr bs) where
  regs _ _ := rfl
  bytes _ outside := s.byteAt_writeBytes_outside bs (outside _ List.mem_cons_self)
  flags _ _ := rfl
  vfail _ := rfl
  xof _ := ⟨rfl, rfl, rfl⟩
  entropy _ := ⟨rfl, rfl⟩
  params := rfl
  ctrl := rfl
  size := rfl
  outside := ⟨rfl, rfl, rfl, rfl⟩
  attempts := rfl

/-- Settles O21: inside BUF the write is one `MemWrite`, which reads back; outside it is dropped and zeros are read. -/
theorem hostReadsBackBufBytes : Obligations.HostReadsBackBufBytes := by
  intro s addr bs idle canonical someByte
  refine ⟨s.bufWrite addr bs, rfl, fun inside => ?_, fun outside => ?_⟩
  · have run := State.inBuf_of_le someByte inside
    rw [State.bufWrite_of_idle idle run]
    refine ⟨?_, s.writeBytes_kept addr bs⟩
    rw [State.bufRead_of_idle (s := s.writeBytes addr bs) idle run, State.readBytes_writeBytes_self canonical]
  · have run := State.inBuf_of_lt outside
    rw [State.bufWrite_outside run]
    exact ⟨rfl, State.bufRead_outside run⟩

/-! ### Writes while a command runs -/

/-- While a command runs every write of REG is one plain access, that of CMD too (20_memory R104). -/
theorem hostStep_regWrite_of_busy {s : State} (busy : s.busy = true) (off : Nat) (v : Word) :
    hostStep (.regWrite off v) s = .next (s.access (.regWrite off v)) := by
  by_cases cmd : off = 0x010
  · subst cmd
    exact if_pos busy
  · exact hostStep_regWrite v s cmd

theorem State.access_regWrite_of_busy {s : State} (busy : s.busy = true) (off : Nat) (v : Word) :
    s.access (.regWrite off v) = s.regWriteBusy off v := if_pos busy

theorem State.setOvr_getLsbD (s : State) (k : Nat) :
    s.setOvr.status.getLsbD k = if k = 3 then true else s.status.getLsbD k := by
  simp [setBit_getLsbD]

/-- Settles O19: a write of REG is dropped or ignored by its offset, one of BUF by its run, and OVR is bit 3 of STATUS. -/
theorem writesWhileBusyAreDropped : Obligations.WritesWhileBusyAreDropped := by
  intro s busy
  refine ⟨fun off v aligned listed => ?_, fun off v ignored => ?_, fun addr bs someByte => ?_,
    s.setOvr_getLsbD 3, s.setOvr_getLsbD 1, s.setOvr_getLsbD 2, rfl⟩
  · rw [hostStep_regWrite_of_busy busy, State.access_regWrite_of_busy busy, s.regWriteBusy_dropped v aligned listed]
  · rw [hostStep_regWrite_of_busy busy, s.regWrite_ignored v ignored]
  · change Host.Outcome.next (s.bufWrite addr bs) = _
    split
    · next inside => rw [State.bufWrite_of_busy busy (State.inBuf_of_le someByte inside)]
    · next outside => rw [State.bufWrite_outside (State.inBuf_of_lt (Nat.not_le.mp outside))]

end Sys2Proof.Machine
end

section
/-! How many bytes the functions behind the commands give (00_scope R12, R16; 43_xof R261, R266; 44_codec R300;
45_seed_tree R320 to R326; 46_merkle R350 to R355; 47_protocol R382). -/

namespace Sys2Proof.Machine

/-! ### Lists -/

/-- A property of every entry and of the default holds of every lookup. -/
theorem getD_of_forall {α : Type} {P : α → Prop} {l : List α} {dflt : α} (entries : ∀ x ∈ l, P x) (default : P dflt)
    (n : Nat) : P (l.getD n dflt) := by
  rw [List.getD_eq_getElem?_getD]
  cases found : l[n]? with
  | none => exact default
  | some x => exact entries x (List.mem_of_getElem? found)

theorem getD_length_le {α : Type} {items : List (List α)} {n : Nat} (each : ∀ x ∈ items, x.length ≤ n) (k : Nat) :
    (items.getD k []).length ≤ n :=
  getD_of_forall (P := fun x : List α => x.length ≤ n) (dflt := []) each (Nat.zero_le n) k

/-- An array of items of at most `n` bytes each. -/
theorem flatten_length_le {items : List Bytes} {n : Nat} (each : ∀ x ∈ items, x.length ≤ n) :
    items.flatten.length ≤ items.length * n := by
  rw [List.length_flatten]
  simpa using List.sum_le_card_nsmul (items.map List.length) n (by simpa using each)

/-- The places at which a bitmap satisfies `P` are as many as its bits that do. -/
theorem places_length (b : List Bool) (P : Bool → Bool) :
    ((List.range b.length).filter fun i => P (b.getD i false)).length = b.countP P := by
  have bits : (List.range b.length).map (fun i => b.getD i false) = b :=
    List.ext_getElem (by simp) fun i _ _ => by simp_all
  rw [← List.countP_eq_length_filter]
  conv_rhs => rw [← bits, List.countP_map]
  rfl

theorem markedRounds_length (b : List Bool) : (markedRounds b).length = ones b :=
  (places_length b id).trans (List.countP_congr fun x _ => by simp)

theorem openedRounds_length (b : List Bool) : (openedRounds b).length = b.count false :=
  (places_length b (!·)).trans (List.countP_congr fun x _ => by simp)

/-! ### Streams, hashes and the codec -/

@[simp] theorem streamBytes_length (S : Nat → Byte) (p n : Nat) : (streamBytes S p n).length = n := by
  simp [streamBytes]

@[simp] theorem hashOf_length (X : Bytes → Nat → Byte) (p : Params) (input : Bytes) :
    (hashOf X p input).length = p.digestBytes := streamBytes_length ..

@[simp] theorem packVec_length (b : Nat) (vs : List Nat) : (packVec b vs).length = packedBytes vs.length b := by
  simp [packVec, natBytes]

@[simp] theorem unpackVec_length (b n : Nat) (bs : Bytes) : (unpackVec b n bs).length = n := by
  simp [unpackVec]

theorem packedBytes_mono {m n : Nat} (h : m ≤ n) (b : Nat) : packedBytes m b ≤ packedBytes n b :=
  Nat.div_le_div_right (Nat.add_le_add_right (Nat.mul_le_mul_right b h) 7)

theorem packQ_length_le (p : Params) {vs : List Nat} {n : Nat} (h : vs.length ≤ n) : (packQ p vs).length ≤ p.pkq n :=
  (packVec_length ..).trans_le (packedBytes_mono h _)

@[simp] theorem bitmapBytes_length (b : List Bool) : (bitmapBytes b).length = b.length := List.length_map _

/-- The bytes of at most `n` elements (20_memory R100). -/
theorem elemBytes_length_le {vs : List Nat} {n : Nat} (h : vs.length ≤ n) : (elemBytes vs).length ≤ 2 * n :=
  (elemBytes_length vs).trans_le (Nat.mul_le_mul_left 2 h)

/-- An answer of the entropy port is as long as the request (20_memory R97, log 3). -/
theorem State.entropyAnswer_length {s : State} {n : Nat} {bs : Bytes} (h : s.entropyAnswer n = some bs) :
    bs.length = n := by
  unfold State.entropyAnswer at h
  split at h
  · split at h
    · next len => exact Option.some.inj h ▸ len
    · nomatch h
  · nomatch h
  · split at h
    · exact Option.some.inj h ▸ by simp
    · nomatch h

/-! ### Draws and the fixed-weight bitmap (43_xof R260, R261, R266) -/

theorem DrawsTo.lt {S : Nat → Byte} {m v : Nat} {d e : Sampler} (h : DrawsTo S m d v e) : v < m := by
  induction h with
  | accept _ taken => exact taken
  | reject _ _ _ _ _ ih => exact ih

/-- There is one value per bound, each below its bound. -/
theorem DrawsAll.forall₂_lt {S : Nat → Byte} {ms vs : List Nat} {d f : Sampler} (h : DrawsAll S ms d vs f) :
    List.Forall₂ (· < ·) vs ms := by
  induction h with
  | nil => exact .nil
  | cons _ _ _ _ _ _ _ head _ ih => exact .cons head.lt ih

theorem sample_length {S : Nat → Byte} {tries m n off p q : Nat} {vs : List Nat}
    (h : sample S tries m n off p = some (vs, q)) : vs.length = n := by
  unfold sample at h
  split at h
  · nomatch h
  · next draws =>
    obtain ⟨rfl, -⟩ := Prod.mk.inj (Option.some.inj h)
    simpa using (drawMany_drawsAll draws).forall₂_lt.length_eq

theorem swapAt_perm {b : List Bool} {i j : Nat} (hi : i < b.length) (hj : j < b.length) : (swapAt b i j).Perm b := by
  have swap := List.set_set_perm hi hj
  simpa [swapAt, hi, hj] using swap

/-- Exchanges inside the list only reorder it. -/
theorem shuffle_perm {rs : List Nat} {b : List Bool} {pos : Nat}
    (inside : ∀ k, ∀ h : k < rs.length, pos + k + rs[k] < b.length) : (shuffle b pos rs).Perm b := by
  induction rs generalizing b pos with
  | nil => exact .refl b
  | cons r rs ih =>
    have first : pos + 0 + r < b.length := inside 0 (Nat.zero_lt_succ _)
    have swapped : (swapAt b pos (pos + r)).Perm b := swapAt_perm (by omega) (by omega)
    refine (ih fun k hk => ?_).trans swapped
    have later : pos + (k + 1) + rs[k] < b.length := inside (k + 1) (Nat.succ_lt_succ hk)
    rw [swapped.length_eq]
    omega

/-- The reveal bitmap is a reordering of W ones and T - W zeros (43_xof R266). -/
theorem fixedWeight_perm {S : Nat → Byte} {tries T W : Nat} {b : List Bool} (h : fixedWeight S tries T W = some b)
    (hW : W ≤ T) : b.Perm (List.replicate W true ++ List.replicate (T - W) false) := by
  unfold fixedWeight at h
  split at h
  · nomatch h
  · next rs _ draws =>
    obtain rfl := Option.some.inj h
    have below := (drawMany_drawsAll draws).forall₂_lt
    refine shuffle_perm fun k hk => ?_
    have bound := below.get hk (below.length_eq ▸ hk)
    simp only [shuffleBounds, List.get_eq_getElem, List.getElem_map, List.getElem_range] at bound
    simp only [List.length_append, List.length_replicate]
    omega

theorem expandBitmap_perm {X : Bytes → Nat → Byte} {p : Params} {tries : Nat} {d : Bytes} {b : List Bool}
    (valid : p.valid = true) (h : expandBitmap X p tries d = some b) :
    b.Perm (List.replicate p.W true ++ List.replicate (p.T - p.W) false) :=
  fixedWeight_perm h (by have := Params.valid_inBounds valid; omega)

/-- The bitmap has one bit per round (43_xof R266). -/
theorem expandBitmap_length {X : Bytes → Nat → Byte} {p : Params} {tries : Nat} {d : Bytes} {b : List Bool}
    (valid : p.valid = true) (h : expandBitmap X p tries d = some b) : b.length = p.T := by
  have bounds := Params.valid_inBounds valid
  rw [(expandBitmap_perm valid h).length_eq, List.length_append, List.length_replicate, List.length_replicate]
  omega

/-- It opens T - W rounds (00_scope R21). -/
theorem expandBitmap_opened {X : Bytes → Nat → Byte} {p : Params} {tries : Nat} {d : Bytes} {b : List Bool}
    (valid : p.valid = true) (h : expandBitmap X p tries d = some b) : (openedRounds b).length = p.T - p.W := by
  rw [openedRounds_length, (expandBitmap_perm valid h).count_eq]
  simp [List.count_replicate]

/-! ### Trees (45_seed_tree R320 to R326, 46_merkle R350 to R355) -/

/-- A property of the leaves and the default that every inner node inherits holds of every node. -/
theorem treeUp_forall {α : Type} {P : α → Prop} {dflt : α} {f : Nat → α → α → α} {leaves : List α} (default : P dflt)
    (leaf : ∀ x ∈ leaves, P x) (inner : ∀ n l r, P l → P r → P (f n l r)) : ∀ x ∈ treeUp dflt f leaves, P x := by
  unfold treeUp
  induction List.range (leaves.length - 1) with
  | nil => exact leaf
  | cons n ns ih =>
    rw [List.foldr_cons, List.forall_mem_cons]
    exact ⟨inner _ _ _ (getD_of_forall ih default _) (getD_of_forall ih default _), ih⟩

/-- A property of the root that both children of every node have holds of every node. -/
theorem treeDown_forall {α : Type} {P : α → Prop} {dflt : α} {f : Nat → α → α × α} {root : α} (T : Nat) (top : P root)
    (left : ∀ n x, P (f n x).1) (right : ∀ n x, P (f n x).2) : ∀ x ∈ treeDown dflt f root T, P x := by
  unfold treeDown
  refine List.foldlRecOn (motive := fun acc => ∀ x ∈ acc, P x) _ _ (by simpa using top) fun acc ih n _ => ?_
  simp only [List.forall_mem_append, List.forall_mem_cons]
  exact ⟨ih, left _ _, right _ _, by simp⟩

theorem length_foldl_append {α : Type} {k : Nat} {g : List α → Nat → List α} (each : ∀ acc n, (g acc n).length = k)
    (ns : List Nat) (acc : List α) :
    (ns.foldl (fun acc n => acc ++ g acc n) acc).length = acc.length + k * ns.length := by
  induction ns generalizing acc with
  | nil => simp
  | cons n ns ih =>
    rw [List.foldl_cons, ih, List.length_append, each, List.length_cons, Nat.mul_succ]
    omega

theorem treeDown_length {α : Type} (dflt : α) (f : Nat → α → α × α) (root : α) (T : Nat) :
    (treeDown dflt f root T).length = 1 + 2 * (T - 1) := by
  refine (length_foldl_append (k := 2) ?_ _ _).trans ?_
  · exact fun _ _ => rfl
  · rw [List.length_singleton, List.length_range]

/-- The nodes of a tree computed from its leaves up, for the inner nodes `ns` only. -/
def treeUpOver {α : Type} (dflt : α) (f : Nat → α → α → α) (leaves : List α) (ns : List Nat) : List α :=
  ns.foldr (fun n acc => f n (acc.getD n dflt) (acc.getD (n + 1) dflt) :: acc) leaves

theorem treeUp_eq_treeUpOver {α : Type} (dflt : α) (f : Nat → α → α → α) (leaves : List α) :
    treeUp dflt f leaves = treeUpOver dflt f leaves (List.range (leaves.length - 1)) := rfl

theorem treeUpOver_cons {α : Type} (dflt : α) (f : Nat → α → α → α) (leaves : List α) (n : Nat) (ns : List Nat) :
    treeUpOver dflt f leaves (n :: ns) =
      f n ((treeUpOver dflt f leaves ns).getD n dflt) ((treeUpOver dflt f leaves ns).getD (n + 1) dflt) ::
        treeUpOver dflt f leaves ns := rfl

theorem length_treeUpOver {α : Type} (dflt : α) (f : Nat → α → α → α) (leaves : List α) (ns : List Nat) :
    (treeUpOver dflt f leaves ns).length = leaves.length + ns.length := by
  induction ns with
  | nil => rfl
  | cons n ns ih => rw [treeUpOver_cons, List.length_cons, ih, List.length_cons, Nat.add_assoc]

theorem getD_map_of_lt {α β : Type} (h : α → β) {l : List α} {n : Nat} (dflt : α) (dflt' : β) (inside : n < l.length) :
    (l.map h).getD n dflt' = h (l.getD n dflt) := by
  simp [List.getD_eq_getElem?_getD, inside]

/-- A map of the nodes that respects the inner rule gives the tree of the mapped leaves; the defaults are never read. -/
theorem treeUp_map {α β : Type} {dflt : α} {dflt' : β} {f : Nat → α → α → α} {g : Nat → β → β → β} (h : α → β)
    (respects : ∀ n l r, g n (h l) (h r) = h (f n l r)) (leaves : List α) :
    treeUp dflt' g (leaves.map h) = (treeUp dflt f leaves).map h := by
  have inside : ∀ n ∈ List.range (leaves.length - 1), n + 1 < leaves.length := fun n hn => by
    have := List.mem_range.mp hn
    omega
  rw [treeUp_eq_treeUpOver, treeUp_eq_treeUpOver, List.length_map]
  generalize List.range (leaves.length - 1) = ns at inside ⊢
  induction ns with
  | nil => rfl
  | cons n ns ih =>
    obtain ⟨here, rest⟩ := List.forall_mem_cons.mp inside
    have grown := length_treeUpOver dflt f leaves ns
    rw [treeUpOver_cons, ih rest, getD_map_of_lt h dflt dflt' (by omega), getD_map_of_lt h dflt dflt' (by omega),
      respects, treeUpOver_cons, List.map_cons]

/-! ### The seed tree (45_seed_tree R320 to R326) -/

theorem zeroFill_length {n : Nat} {bs : Bytes} (h : bs.length ≤ n) : (zeroFill n bs).length = n := by
  rw [zeroFill, List.length_append, List.length_replicate]
  omega

theorem itemAt_length_le (size : Nat) (bs : Bytes) (k : Nat) : (itemAt size bs k).length ≤ size :=
  List.length_take_le ..

/-- A supplied item has at most the size of an item. -/
theorem length_le_of_suppliedFor {size : Nat} {bs : Bytes} {covered : List Nat} {n : Nat} {item : Bytes}
    (h : suppliedFor size bs covered n = some item) : item.length ≤ size := by
  obtain ⟨k, -, rfl⟩ := Option.map_eq_some_iff.mp h
  exact itemAt_length_le ..

theorem suppliedFor_getD_length_le (size : Nat) (bs : Bytes) (covered : List Nat) (n : Nat) {dflt : Bytes}
    (default : dflt.length ≤ size) : ((suppliedFor size bs covered n).getD dflt).length ≤ size := by
  cases given : suppliedFor size bs covered n with
  | none => exact default
  | some item => exact length_le_of_suppliedFor given

theorem seedNodes_length_le (X : Bytes → Nat → Byte) (p : Params) {root : Bytes} (salt : Bytes)
    (h : root.length ≤ p.seedBytes) : ∀ sd ∈ seedNodes X p root salt, sd.length ≤ p.seedBytes :=
  treeDown_forall p.T h (fun _ _ => (streamBytes_length ..).le) fun _ _ => (streamBytes_length ..).le

theorem flatSeed_length (X : Bytes → Nat → Byte) (p : Params) (root salt : Bytes) (i : Nat) :
    (flatSeed X p root salt i).length = p.seedBytes := streamBytes_length ..

theorem roundSeeds_length {p : Params} (valid : p.valid = true) (X : Bytes → Nat → Byte) (root salt : Bytes) :
    (roundSeeds X p root salt).length = p.T := by
  have bounds := Params.valid_inBounds valid
  unfold roundSeeds
  split
  · simp
  · rw [List.length_drop, seedNodes, treeDown_length]
    omega

theorem roundSeeds_each_length_le (X : Bytes → Nat → Byte) (p : Params) {root : Bytes} (salt : Bytes)
    (h : root.length ≤ p.seedBytes) : ∀ sd ∈ roundSeeds X p root salt, sd.length ≤ p.seedBytes := by
  unfold roundSeeds
  split
  · exact List.forall_mem_map.mpr fun i _ => (flatSeed_length ..).le
  · exact fun sd hsd => seedNodes_length_le X p salt h sd (List.mem_of_mem_drop hsd)

theorem disclosedSeeds_length (X : Bytes → Nat → Byte) (p : Params) (root salt : Bytes) (b : List Bool) :
    (disclosedSeeds X p root salt b).length = coverCount p b := by
  unfold disclosedSeeds coverCount
  split
  · rw [List.length_map, markedRounds_length]
  · rw [List.length_map]

theorem disclosedSeeds_each_length_le (X : Bytes → Nat → Byte) (p : Params) {root : Bytes} (salt : Bytes)
    (b : List Bool) (h : root.length ≤ p.seedBytes) :
    ∀ sd ∈ disclosedSeeds X p root salt b, sd.length ≤ p.seedBytes := by
  unfold disclosedSeeds
  split
  · exact List.forall_mem_map.mpr fun i _ => (flatSeed_length ..).le
  · exact List.forall_mem_map.mpr fun n _ =>
      getD_length_le (seedNodes_length_le X p salt h) n

/-- A disclosure within ST_MAX fills its field exactly (45_seed_tree R324). -/
theorem disclosureField_length {X : Bytes → Nat → Byte} {p : Params} {root : Bytes} (salt : Bytes) {b : List Bool}
    (h : root.length ≤ p.seedBytes) (count : coverCount p b ≤ p.stMax) :
    (disclosureField X p root salt b).length = p.stMax * p.seedBytes := by
  refine zeroFill_length ((flatten_length_le (disclosedSeeds_each_length_le X p salt b h)).trans ?_)
  rw [disclosedSeeds_length]
  exact Nat.mul_le_mul_right _ count

/-- A node of the rebuilt tree that has a seed has one of at most SEED_BYTES bytes. -/
def SeedSized (p : Params) (node : Option Bytes) : Prop := ∀ sd, node = some sd → sd.length ≤ p.seedBytes

theorem rebuiltNodes_seedSized (X : Bytes → Nat → Byte) (p : Params) (supplied salt : Bytes) (b : List Bool) :
    ∀ node ∈ rebuiltNodes X p supplied salt b, SeedSized p node := by
  unfold rebuiltNodes
  refine treeDown_forall (P := SeedSized p) p.T (fun _ given => length_le_of_suppliedFor given)
    (fun n o sd child => ?_) fun n o sd child => ?_
  all_goals
    cases o with
    | none => exact length_le_of_suppliedFor child
    | some parent => exact Option.some.inj child ▸ (streamBytes_length ..).le

theorem rebuiltSeeds_length (X : Bytes → Nat → Byte) (p : Params) (supplied salt : Bytes) (b : List Bool) :
    (rebuiltSeeds X p supplied salt b).length = p.T := by
  simp [rebuiltSeeds]

theorem rebuiltSeeds_each_length_le (X : Bytes → Nat → Byte) (p : Params) (supplied salt : Bytes) (b : List Bool) :
    ∀ sd ∈ rebuiltSeeds X p supplied salt b, sd.length ≤ p.seedBytes := by
  have zero : (List.replicate p.seedBytes (0 : Byte)).length ≤ p.seedBytes := List.length_replicate.le
  refine List.forall_mem_map.mpr fun i _ => ?_
  split
  · split
    · exact suppliedFor_getD_length_le _ _ _ _ zero
    · cases node : (rebuiltNodes X p supplied salt b).getD (p.T - 1 + i) none with
      | none => exact zero
      | some sd =>
        have absent : SeedSized p none := fun _ isSome => nomatch isSome
        exact getD_of_forall (rebuiltNodes_seedSized X p supplied salt b) absent _ sd node
  · exact zero

/-! ### The Merkle tree (46_merkle R350 to R356) -/

theorem digestArray_each_length_le (p : Params) (n : Nat) (bs : Bytes) :
    ∀ d ∈ digestArray p n bs, d.length ≤ p.digestBytes :=
  List.forall_mem_map.mpr fun k _ => itemAt_length_le _ bs k

theorem merkleNodes_length_le (X : Bytes → Nat → Byte) (p : Params) {leaves : List Bytes}
    (h : ∀ d ∈ leaves, d.length ≤ p.digestBytes) : ∀ d ∈ merkleNodes X p leaves, d.length ≤ p.digestBytes :=
  treeUp_forall (P := fun d : Bytes => d.length ≤ p.digestBytes) (Nat.zero_le _) h fun _ _ _ _ _ => (hashOf_length ..).le

theorem flatRoot_length (X : Bytes → Nat → Byte) (p : Params) (leaves : List Bytes) :
    (flatRoot X p leaves).length = p.digestBytes := hashOf_length ..

theorem merkleRoot_length_le (X : Bytes → Nat → Byte) (p : Params) {leaves : List Bytes}
    (h : ∀ d ∈ leaves, d.length ≤ p.digestBytes) : (merkleRoot X p leaves).length ≤ p.digestBytes := by
  unfold merkleRoot
  split
  · exact (flatRoot_length ..).le
  · exact getD_length_le (merkleNodes_length_le X p h) 0

/-- A node is unknown exactly when it is full (45_seed_tree R322, 46_merkle R351). -/
theorem knownNodes_eq_map_not (b : List Bool) : knownNodes b = (fullNodes b).map (!·) :=
  treeUp_map (!·) (fun _ l r => by cases l <;> rfl) b

/-- The proof set is the disclosure set (46_merkle R356). -/
theorem pset_eq_dset (b : List Bool) : pset b = dset b := by
  unfold pset dset
  simp only [knownNodes_eq_map_not, List.length_map]
  refine List.filter_congr fun n hn => ?_
  have inside := List.mem_range.mp hn
  rw [getD_map_of_lt _ false false inside, getD_map_of_lt _ false false (by omega), Bool.not_not]

theorem proofCount_eq_coverCount (p : Params) (b : List Bool) : proofCount p b = coverCount p b := by
  rw [proofCount, coverCount, pset_eq_dset]

theorem proofDigests_length (X : Bytes → Nat → Byte) (p : Params) (leaves : List Bytes) (b : List Bool) :
    (proofDigests X p leaves b).length = proofCount p b := by
  unfold proofDigests proofCount
  split
  · rw [List.length_map, markedRounds_length]
  · rw [List.length_map]

theorem proofDigests_each_length_le (X : Bytes → Nat → Byte) (p : Params) {leaves : List Bytes} (b : List Bool)
    (h : ∀ d ∈ leaves, d.length ≤ p.digestBytes) : ∀ d ∈ proofDigests X p leaves b, d.length ≤ p.digestBytes := by
  unfold proofDigests
  split
  · exact List.forall_mem_map.mpr fun i _ =>
      getD_length_le h i
  · exact List.forall_mem_map.mpr fun n _ =>
      getD_length_le (merkleNodes_length_le X p h) n

/-- A proof within MT_MAX fills its field exactly (46_merkle R353). -/
theorem proofField_length {X : Bytes → Nat → Byte} {p : Params} {leaves : List Bytes} {b : List Bool}
    (h : ∀ d ∈ leaves, d.length ≤ p.digestBytes) (count : proofCount p b ≤ p.mtMax) :
    (proofField X p leaves b).length = p.mtMax * p.digestBytes := by
  refine zeroFill_length ((flatten_length_le (proofDigests_each_length_le X p b h)).trans ?_)
  rw [proofDigests_length]
  exact Nat.mul_le_mul_right _ count

theorem recomputedNodes_length_le (X : Bytes → Nat → Byte) (p : Params) {slots : List Bytes} (proof : Bytes)
    (b : List Bool) (h : ∀ d ∈ slots, d.length ≤ p.digestBytes) :
    ∀ d ∈ recomputedNodes X p slots proof b, d.length ≤ p.digestBytes := by
  unfold recomputedNodes
  refine treeUp_forall (P := fun d : Bytes => d.length ≤ p.digestBytes) (Nat.zero_le _)
    (List.forall_mem_map.mpr fun i _ => ?_) fun n l r _ _ => suppliedFor_getD_length_le _ _ _ _ ?_
  · split
    · exact suppliedFor_getD_length_le _ _ _ _ (Nat.zero_le _)
    · exact getD_length_le h i
  · split
    · exact (hashOf_length ..).le
    · exact Nat.zero_le _

theorem recomputedRoot_length_le (X : Bytes → Nat → Byte) (p : Params) {slots : List Bytes} (proof : Bytes)
    (b : List Bool) (h : ∀ d ∈ slots, d.length ≤ p.digestBytes) :
    (recomputedRoot X p slots proof b).length ≤ p.digestBytes := by
  unfold recomputedRoot
  split
  · exact (flatRoot_length ..).le
  · exact getD_length_le (recomputedNodes_length_le X p proof b h) 0

/-! ### Key pair and signature (47_protocol R381, R382) -/

@[simp] theorem syn_length (p : Params) (V v : List Nat) : (p.syn V v).length = p.N - p.K := by
  simp [Params.syn]

/-- The expansion through W_mat has N entries (42_vector R225). -/
theorem expz_length {p : Params} (valid : p.valid = true) (variant : p.variant = true) (Wm eta : List Nat) :
    (p.expz Wm eta).length = p.N := by
  have bounds := Params.valid_inBounds valid
  simp only [Params.InBounds, variant, forall_const] at bounds
  simp only [Params.expz, List.length_append, List.length_map, List.length_range]
  omega

theorem publicKey_length {X : Bytes → Nat → Byte} {p : Params} {tries : Nat} {ms pk : Bytes}
    (h : publicKey X p tries ms = some pk) : pk.length = p.pkBytes := by
  simp only [publicKey] at h
  split at h
  · nomatch h
  · split at h
    · nomatch h
    · obtain rfl := Option.some.inj h
      simp [expandMaster, packQ, Params.pkBytes, Params.pkq]

theorem roundExpand_length {X : Bytes → Nat → Byte} {p : Params} {tries : Nat} {rs salt : Bytes} {i : Nat}
    {mask u : List Nat} (h : roundExpand X p tries rs salt i = some (mask, u)) :
    mask.length = p.L ∧ u.length = p.N := by
  simp only [roundExpand] at h
  split at h
  · nomatch h
  · next masks =>
    split at h
    · nomatch h
    · next blinds =>
      obtain ⟨rfl, rfl⟩ := Prod.mk.inj (Option.some.inj h)
      exact ⟨sample_length masks, sample_length blinds⟩

/-- The sizes of what the signer keeps of a round. -/
structure RoundOut.Sized (p : Params) (r : RoundOut) : Prop where
  blind : r.blind.length ≤ p.N
  sigma : r.sigma.length ≤ p.L
  cmt0 : r.cmt0.length ≤ p.digestBytes
  cmt1 : r.cmt1.length ≤ p.digestBytes

theorem roundCommit_sized {X : Bytes → Nat → Byte} {p : Params} {tries : Nat} {V Wm short : List Nat} {rs salt : Bytes}
    {i : Nat} {r : RoundOut} (h : roundCommit X p tries V Wm short rs salt i = some r) : r.Sized p := by
  unfold roundCommit at h
  split at h
  · nomatch h
  · next expanded =>
    obtain ⟨mask, blind⟩ := roundExpand_length expanded
    obtain rfl := Option.some.inj h
    exact
      { blind := blind.le
        sigma := by simp [Params.embVec, subVec, mask]
        cmt0 := (hashOf_length ..).le
        cmt1 := (hashOf_length ..).le }

theorem response_length_le (p : Params) (Wm mask : List Nat) {u : List Nat} (beta : Nat) (h : u.length ≤ p.N) :
    (response p Wm mask u beta).length ≤ p.N := by
  rw [response, scaVec, List.length_zipWith]
  omega

theorem responses_each_length_le (p : Params) (Wm : List Nat) {rounds : List RoundOut} (betas : List Nat)
    (sized : ∀ r ∈ rounds, r.Sized p) : ∀ y ∈ responses p Wm rounds betas, y.length ≤ p.N :=
  List.forall_mem_map.mpr fun rb hrb =>
    response_length_le p Wm rb.1.mask rb.2 (sized rb.1 (List.of_mem_zip hrb).1).blind

theorem record_length_le {p : Params} {y : List Nat} {r : RoundOut} (hy : y.length ≤ p.N) (sized : r.Sized p) :
    (record p y r).length ≤ p.recBytes := by
  have packedY := packQ_length_le p hy
  have packedSigma := packQ_length_le p sized.sigma
  have cmt1 := sized.cmt1
  simp only [record, Params.recBytes, List.length_append]
  omega

/-- Every computation of a list that `allSome` answers for has answered. -/
theorem allSome_forall {α : Type} {P : α → Prop} {os : List (Option α)} {vs : List α} (h : allSome os = some vs)
    (each : ∀ o ∈ os, ∀ v, o = some v → P v) : ∀ v ∈ vs, P v := by
  induction os generalizing vs with
  | nil => exact Option.some.inj h ▸ by simp
  | cons o os ih =>
    obtain ⟨first, rest⟩ := List.forall_mem_cons.mp each
    cases o with
    | none => nomatch h
    | some v =>
      simp only [allSome] at h
      split at h
      · nomatch h
      · next tail =>
        obtain rfl := Option.some.inj h
        exact List.forall_mem_cons.mpr ⟨first v rfl, ih tail rest⟩

/-- A signature of sized rounds within both bounds has at most SIG_BYTES bytes (47_protocol R382). -/
theorem assemble_length_le {X : Bytes → Nat → Byte} {p : Params} {root salt d01 db : Bytes} {b : List Bool}
    {rounds : List RoundOut} {ys : List (List Nat)} (hroot : root.length ≤ p.seedBytes)
    (hsalt : salt.length ≤ p.saltBytes) (hd01 : d01.length ≤ p.digestBytes) (hdb : db.length ≤ p.digestBytes)
    (bounds : withinBounds p b = true) (opened : (openedRounds b).length = p.T - p.W)
    (sized : ∀ r ∈ rounds, r.Sized p) (hys : ∀ y ∈ ys, y.length ≤ p.N) :
    (assemble X p root salt d01 db b rounds ys).length ≤ p.sigBytes := by
  simp only [withinBounds, Bool.and_eq_true, decide_eq_true_eq] at bounds
  obtain ⟨seeds, digests⟩ := bounds
  have disclosure := disclosureField_length (X := X) salt hroot seeds
  have proof := proofField_length (X := X) (leaves := rounds.map (·.cmt0)) (b := b)
    (List.forall_mem_map.mpr fun r hr => (sized r hr).cmt0) ((proofCount_eq_coverCount p b).trans_le digests)
  have empty : RoundOut.Sized p ⟨[], [], [], [], []⟩ :=
    ⟨Nat.zero_le _, Nat.zero_le _, Nat.zero_le _, Nat.zero_le _⟩
  have each := List.forall_mem_map (f := fun i => record p (ys.getD i []) (rounds.getD i ⟨[], [], [], [], []⟩))
    (l := openedRounds b) (P := fun r : Bytes => r.length ≤ p.recBytes) |>.mpr fun i _ =>
      record_length_le (getD_length_le hys i) (getD_of_forall sized empty i)
  have records := flatten_length_le each
  rw [List.length_map, opened] at records
  simp only [assemble, Params.sigBytes, List.length_append, disclosure, proof]
  omega

/-- A signature whose count is within both bounds has at most SIG_BYTES bytes (47_protocol R382, R393). -/
theorem signature_length_le {X : Bytes → Nat → Byte} {p : Params} {tries : Nat} {ms root salt msg sig : Bytes}
    {b : List Bool} (valid : p.valid = true) (hroot : root.length ≤ p.seedBytes) (hsalt : salt.length ≤ p.saltBytes)
    (h : signature X p tries ms root salt msg = some (b, sig)) (bounds : withinBounds p b = true) :
    sig.length ≤ p.sigBytes := by
  simp only [signature] at h
  split at h
  · split at h
    · nomatch h
    · next rounds committed =>
      have sized : ∀ r ∈ rounds, r.Sized p := allSome_forall committed
        (List.forall_mem_map.mpr fun i _ r round => roundCommit_sized round)
      split at h
      · nomatch h
      · split at h
        · nomatch h
        · next expanded =>
          obtain ⟨rfl, rfl⟩ := Prod.mk.inj (Option.some.inj h)
          exact assemble_length_le hroot hsalt (hashOf_length ..).le (hashOf_length ..).le bounds
            (expandBitmap_opened valid expanded) sized (responses_each_length_le p _ _ sized)
  · nomatch h

end Sys2Proof.Machine
end

section
/-! BUF stays canonical and inside its bounds: every write of a command lies in a region its tests have passed, one lemma
per command, and the step (20_memory R90, R91; 10_state R71). Settles O11. -/

namespace Sys2Proof.Machine

/-! ### What the passed tests give -/

/-- A command that passes its tests finds a valid parameter set when it asks for one (10_state R67). -/
theorem valid_of_firstFault_eq_none {s : State} {checks : List Check} (passed : firstFault checks = none)
    (tested : s.paramCheck ∈ checks) : s.params.valid = true :=
  firstFault_eq_none_iff.mp passed _ tested

/-- A command that passes its tests finds each of its regions inside BUF (20_memory R91). -/
theorem fits_of_firstFault_eq_none {s : State} {checks : List Check} {rs : List Region} {r : Region}
    (passed : firstFault checks = none) (tested : s.addrCheck rs ∈ checks) (listed : r ∈ rs) : s.fits r = true :=
  List.all_eq_true.mp (firstFault_eq_none_iff.mp passed _ tested) r listed

/-! ### Each operation keeps BUF inside its bounds -/

/-- Only BUF and BUF_BYTES count. -/
theorem BufferOk.congr {s u : State} (ok : BufferOk s) (buf : u.buf = s.buf) (size : u.bufBytes = s.bufBytes) :
    BufferOk u where
  wf := buf ▸ ok.wf
  inside := by rw [buf, size]; exact ok.inside

section Operations

variable {s : State} (ok : BufferOk s)
include ok

/-- A write of no byte, or of bytes none of which lies past BUF_BYTES (20_memory R91). -/
theorem BufferOk.writeBytes {a n : Nat} {bs : Bytes} (fits : s.fits (a, n) = true) (size : bs.length ≤ n) :
    BufferOk (s.writeBytes a bs) where
  wf := Memory.write_wf ok.wf a bs
  inside c hc := by
    rcases Memory.mem_write hc with old | ⟨_, new⟩
    · exact ok.inside c old
    · simp only [State.fits, Bool.or_eq_true, beq_iff_eq, decide_eq_true_eq] at fits
      change c.1 < s.bufBytes
      omega

theorem BufferOk.writeElems {a n : Nat} {vs : List Nat} (fits : s.fits (a, 2 * n) = true) (size : vs.length ≤ n) :
    BufferOk (s.writeElems a vs) :=
  ok.writeBytes fits (by rw [elemBytes_length]; omega)

omit ok in
theorem BufferOk.resetBlock (s : State) : BufferOk s.resetBlock where
  wf := Memory.reset_wf
  inside _ hc := nomatch hc

theorem BufferOk.ctrlWrite (v : Word) : BufferOk (s.ctrlWrite v) := by
  unfold State.ctrlWrite
  split
  · exact BufferOk.resetBlock s
  · exact ok.congr rfl rfl

theorem BufferOk.regWriteIdle (off : Nat) (v : Word) : BufferOk (s.regWriteIdle off v) := by
  unfold State.regWriteIdle
  split; · exact ok
  split; · exact ok.ctrlWrite v
  split; · exact ok.congr rfl rfl
  split; · exact ok.congr rfl rfl
  split
  · exact ok.congr rfl rfl
  · exact ok

theorem BufferOk.regWriteBusy (off : Nat) (v : Word) : BufferOk (s.regWriteBusy off v) := by
  rcases s.regWriteBusy_cases off v with e | e | e | e <;> rw [e]
  · exact ok
  · exact ok.congr rfl rfl
  · exact ok.ctrlWrite v
  · exact ok.congr rfl rfl

omit ok in
theorem State.afterRegRead_buf (s : State) (off : Nat) :
    (s.afterRegRead off).buf = s.buf ∧ (s.afterRegRead off).bufBytes = s.bufBytes := by
  unfold State.afterRegRead
  split <;> exact ⟨rfl, rfl⟩

omit ok in
theorem State.afterBufRead_buf (s : State) (addr n : Nat) :
    (s.afterBufRead addr n).buf = s.buf ∧ (s.afterBufRead addr n).bufBytes = s.bufBytes := by
  unfold State.afterBufRead
  split <;> exact ⟨rfl, rfl⟩

/-- The host writes BUF only where the whole run lies in it (20_memory R90). -/
theorem BufferOk.bufWrite (addr : Nat) (bs : Bytes) : BufferOk (s.bufWrite addr bs) := by
  cases run : s.inBuf addr bs.length with
  | false => rw [State.bufWrite_outside run]; exact ok
  | true =>
    cases busy : s.busy with
    | true => rw [State.bufWrite_of_busy busy run]; exact ok.congr s.setOvr_buf s.setOvr_bufBytes
    | false =>
      have fits : s.fits (addr, bs.length) = true := by
        simp [State.fits, (State.inBuf_iff.mp run).2]
      rw [State.bufWrite_of_idle busy run]
      exact ok.writeBytes fits le_rfl

theorem BufferOk.access (a : HostAccess) : BufferOk (s.access a) := by
  cases a with
  | regRead off => exact ok.congr (s.afterRegRead_buf off).1 (s.afterRegRead_buf off).2
  | regWrite off v =>
    change BufferOk (if s.busy then s.regWriteBusy off v else s.regWriteIdle off v)
    split
    · exact ok.regWriteBusy off v
    · exact ok.regWriteIdle off v
  | bufRead addr n => exact ok.congr (s.afterBufRead_buf addr n).1 (s.afterBufRead_buf addr n).2
  | bufWrite addr bs => exact ok.bufWrite addr bs
  | hardReset => exact BufferOk.resetBlock s

end Operations

/-! ### Each command keeps BUF inside its bounds -/

/-- The state an outcome answers has BUF inside its bounds. -/
def KeepsBuffer (o : Host.Outcome State Fault Refusal) : Prop := ∀ t, o = .next t → BufferOk t

/-- The state a result holds has BUF inside its bounds. -/
def Result.KeepsBuffer : Result → Prop
  | .effect u => BufferOk u
  | .late _ u => BufferOk u
  | .pending => True

section Commands

variable {s : State} (ok : BufferOk s)
include ok

/-- The shared frame: a command need only look at its result, and there at its passed tests. -/
theorem runCommand_keepsBuffer {i : Instr} {checks : List Check} {r : Result}
    (result : firstFault checks = none → r.KeepsBuffer) : KeepsBuffer (runCommand i s checks r) := by
  intro t h
  rcases runCommand_cases h with ⟨c, -, rfl⟩ | ⟨passed, ⟨u, rfl, rfl⟩ | ⟨c, u, rfl, rfl⟩ | ⟨rfl, rfl⟩⟩
  · exact ok.congr (s.takeFault_buf c _) (s.takeFault_bufBytes c _)
  · exact BufferOk.congr (result passed) u.complete_buf u.complete_bufBytes
  · exact BufferOk.congr (result passed) (u.takeFault_buf c _) (u.takeFault_bufBytes c _)
  · exact ok.congr (s.stayBusy_buf _) (s.stayBusy_bufBytes _)

/-- A command whose effect leaves BUF alone. -/
theorem runCommand_keepsBuffer_of_buf_eq {i : Instr} {checks : List Check} {u : State} (buf : u.buf = s.buf)
    (size : u.bufBytes = s.bufBytes) : KeepsBuffer (runCommand i s checks (.effect u)) :=
  runCommand_keepsBuffer ok fun _ => ok.congr buf size

/-- A command whose effect on BUF is one write into the first region it tests. -/
theorem runCommand_keepsBuffer_of_write {i : Instr} {checks : List Check} {rs : List Region} {u : State} {a n : Nat}
    {bs : Bytes} (tested : s.addrCheck ((a, n) :: rs) ∈ checks) (buf : u.buf = (s.writeBytes a bs).buf)
    (size : u.bufBytes = s.bufBytes) (length : firstFault checks = none → bs.length ≤ n) :
    KeepsBuffer (runCommand i s checks (.effect u)) :=
  runCommand_keepsBuffer ok fun passed =>
    (ok.writeBytes (fits_of_firstFault_eq_none passed tested (.head _)) (length passed)).congr buf size

theorem vectorBinary_keepsBuffer (i : Instr) (m : Nat) {f : List Nat → List Nat → List Nat} (a b c d : Reg)
    (length : ∀ u v, (f u v).length ≤ u.length) : KeepsBuffer (vectorBinary i m f a b c d s) := by
  unfold vectorBinary
  exact runCommand_keepsBuffer_of_write ok (.tail _ (.head _)) rfl rfl fun _ =>
    elemBytes_length_le ((length _ _).trans (s.readElems_length ..).le)

theorem vectorUnary_keepsBuffer (i : Instr) (bound : Nat) (f : Nat → Nat) (a b d : Reg) :
    KeepsBuffer (vectorUnary i bound f a b d s) := by
  unfold vectorUnary
  exact runCommand_keepsBuffer_of_write ok (.tail _ (.head _)) rfl rfl fun _ => elemBytes_length_le (by simp)

/-- EXPZ writes N elements, M being below N in a valid RSDPG set (10_state R67, 42_vector R225). -/
theorem execExpz_keepsBuffer (a b c : Reg) : KeepsBuffer (execExpz a b c s) := by
  unfold execExpz
  refine runCommand_keepsBuffer_of_write ok (.tail _ (.tail _ (.head _))) rfl rfl fun passed => elemBytes_length_le ?_
  have variant : s.params.variant = true := firstFault_eq_none_iff.mp passed _ (.head _)
  exact (expz_length (valid_of_firstFault_eq_none passed (.tail _ (.head _))) variant _ _).le

theorem sampleCommand_keepsBuffer (i : Instr) (m off : Nat) (a d : Reg) :
    KeepsBuffer (sampleCommand i m off a d s) := by
  unfold sampleCommand
  refine runCommand_keepsBuffer ok fun passed => ?_
  have fits := fits_of_firstFault_eq_none passed (.tail _ (.tail _ (.head _))) (.head _)
  split
  · trivial
  · next sampled => exact (ok.writeElems fits (sample_length sampled).le).congr rfl rfl

theorem execXsqz_keepsBuffer (a b : Reg) : KeepsBuffer (execXsqz a b s) := by
  unfold execXsqz
  exact runCommand_keepsBuffer_of_write ok (.tail _ (.tail _ (.head _))) rfl rfl fun _ => (streamBytes_length ..).le

theorem execHash_keepsBuffer (a b c : Reg) : KeepsBuffer (execHash a b c s) :=
  runCommand_keepsBuffer_of_write ok (.tail _ (.head _)) rfl rfl fun _ => (hashOf_length ..).le

/-- FWEXP writes one byte per round (43_xof R266). -/
theorem execFwexp_keepsBuffer (a b : Reg) : KeepsBuffer (execFwexp a b s) := by
  unfold execFwexp
  refine runCommand_keepsBuffer ok fun passed => ?_
  have valid := valid_of_firstFault_eq_none passed (.head _)
  have fits := fits_of_firstFault_eq_none passed (.tail _ (.head _)) (.head _)
  split
  · trivial
  · next bm expanded =>
    have size : (bitmapBytes bm).length ≤ s.params.T :=
      ((bitmapBytes_length bm).trans (expandBitmap_length valid expanded)).le
    exact (ok.writeBytes fits size).congr rfl rfl

theorem execPack_keepsBuffer (a b d : Reg) (sel : Sel) : KeepsBuffer (execPack a b d sel s) := by
  unfold execPack
  exact runCommand_keepsBuffer_of_write ok (.tail _ (.tail _ (.head _))) rfl rfl fun _ => by simp

theorem execUnpack_keepsBuffer (a b d : Reg) (sel : Sel) : KeepsBuffer (execUnpack a b d sel s) := by
  unfold execUnpack
  exact runCommand_keepsBuffer_of_write ok (.tail _ (.tail _ (.head _))) rfl rfl fun _ => elemBytes_length_le (by simp)

/-- STBUILD writes T round seeds (45_seed_tree R323). -/
theorem execStbuild_keepsBuffer (a b c : Reg) : KeepsBuffer (execStbuild a b c s) := by
  unfold execStbuild
  refine runCommand_keepsBuffer_of_write ok (.tail _ (.head _)) rfl rfl fun passed => ?_
  have valid := valid_of_firstFault_eq_none passed (.head _)
  refine (flatten_length_le (roundSeeds_each_length_le _ _ _ (s.readBytes_length ..).le)).trans ?_
  rw [roundSeeds_length valid]

/-- STDISC writes a field of ST_MAX seeds, having tested the count (45_seed_tree R324). -/
theorem execStdisc_keepsBuffer (a b c d e : Reg) : KeepsBuffer (execStdisc a b c d e s) := by
  unfold execStdisc
  refine runCommand_keepsBuffer_of_write ok (.tail _ (.head _)) rfl rfl fun passed => ?_
  have count := firstFault_eq_none_iff.mp passed _ (.tail _ (.tail _ (.tail _ (.head _))))
  exact (disclosureField_length _ (s.readBytes_length ..).le (of_decide_eq_true count)).le

/-- STREB writes T round seeds or leaves its destination (45_seed_tree R325). -/
theorem execStreb_keepsBuffer (a b c d e : Reg) : KeepsBuffer (execStreb a b c d e s) := by
  unfold execStreb
  refine runCommand_keepsBuffer ok fun passed => ?_
  have fits := fits_of_firstFault_eq_none passed (.tail _ (.head _)) (.head _)
  split
  · refine (ok.writeBytes fits ((flatten_length_le (rebuiltSeeds_each_length_le _ _ _ _ _)).trans ?_)).congr rfl rfl
    rw [rebuiltSeeds_length]
  · exact ok.congr rfl rfl

theorem execMtroot_keepsBuffer (a b : Reg) : KeepsBuffer (execMtroot a b s) := by
  unfold execMtroot
  exact runCommand_keepsBuffer_of_write ok (.tail _ (.head _)) rfl rfl fun _ =>
    merkleRoot_length_le _ _ (digestArray_each_length_le _ _ _)

/-- MTPROOF writes a field of MT_MAX digests, having tested the count (46_merkle R353). -/
theorem execMtproof_keepsBuffer (a b d e : Reg) : KeepsBuffer (execMtproof a b d e s) := by
  unfold execMtproof
  refine runCommand_keepsBuffer_of_write ok (.tail _ (.head _)) rfl rfl fun passed => ?_
  have count := firstFault_eq_none_iff.mp passed _ (.tail _ (.tail _ (.tail _ (.head _))))
  exact (proofField_length (digestArray_each_length_le _ _ _) (of_decide_eq_true count)).le

/-- MTRECOMP writes a root or leaves its destination (46_merkle R354). -/
theorem execMtrecomp_keepsBuffer (a b c d e : Reg) : KeepsBuffer (execMtrecomp a b c d e s) := by
  unfold execMtrecomp
  refine runCommand_keepsBuffer ok fun passed => ?_
  have fits := fits_of_firstFault_eq_none passed (.tail _ (.head _)) (.head _)
  split
  · refine (ok.writeBytes fits ?_).congr rfl rfl
    exact recomputedRoot_length_le _ _ _ _ (digestArray_each_length_le _ _ _)
  · exact ok.congr rfl rfl

/-- KEYGEN writes the public key, then the master seed (47_protocol R392). -/
theorem execKeygen_keepsBuffer (a b : Reg) : KeepsBuffer (execKeygen a b s) := by
  unfold execKeygen
  refine runCommand_keepsBuffer ok fun passed => ?_
  have pkFits := fits_of_firstFault_eq_none passed (.tail _ (.head _)) (.head _)
  have skFits := fits_of_firstFault_eq_none passed (.tail _ (.head _)) (.tail _ (.head _))
  split
  · exact ok.congr rfl rfl
  · next ms answered =>
    split
    · trivial
    · next pk derived =>
      have pkWritten : BufferOk (s.writeBytes (s.val a) pk) := ok.writeBytes pkFits (publicKey_length derived).le
      have skWritten : BufferOk ((s.writeBytes (s.val a) pk).writeBytes (s.val b) ms) :=
        pkWritten.writeBytes skFits (State.entropyAnswer_length answered).le
      exact skWritten.congr rfl rfl

/-- SIGN writes a signature whose count is within both bounds (47_protocol R393). -/
theorem execSign_keepsBuffer (a b c d : Reg) : KeepsBuffer (execSign a b c d s) := by
  unfold execSign
  refine runCommand_keepsBuffer ok fun passed => ?_
  have valid := valid_of_firstFault_eq_none passed (.head _)
  have fits := fits_of_firstFault_eq_none passed (.tail _ (.head _)) (.head _)
  split
  · exact ok.congr rfl rfl
  · next root rootAnswer =>
    split
    · exact ok.congr rfl rfl
    · next salt saltAnswer =>
      split
      · trivial
      · next sig signed =>
        split
        · next bounds =>
          have size := signature_length_le valid (State.entropyAnswer_length rootAnswer).le
            (State.entropyAnswer_length saltAnswer).le signed bounds
          exact (ok.writeBytes fits size).congr rfl rfl
        · exact ok.congr rfl rfl

/-- VERIFY writes no byte of BUF (47_protocol R394). -/
theorem execVerify_keepsBuffer (a b c d e : Reg) : KeepsBuffer (execVerify a b c d e s) := by
  unfold execVerify
  refine runCommand_keepsBuffer ok fun _ => ?_
  split
  · split
    · trivial
    · exact ok.congr rfl rfl
  · exact ok.congr rfl rfl

/-- Every command keeps BUF inside its bounds; those that do not write it stand together. -/
theorem exec_keepsBuffer (i : Instr) : KeepsBuffer (exec i s) := by
  unfold exec
  cases i with
  | nop | movi _ _ | movhi _ _ | fqadd _ _ _ | fqsub _ _ _ | fqmul _ _ _ | fqnorm _ _ | fqinv _ _ | r2f _ _ | ingrp _ _
  | f2r _ _ | fzadd _ _ _ | fzsub _ _ _ | fzmul _ _ _ | fznorm _ _ | fzinv _ _ | vingrp _ _ _ | xinit | xabs _ _
  | xabsi _ | xfin => exact runCommand_keepsBuffer_of_buf_eq ok rfl rfl
  | vqadd _ _ _ _ | vqsub _ _ _ _ | vqmul _ _ _ _ | vzsub _ _ _ _ =>
    exact vectorBinary_keepsBuffer ok _ _ _ _ _ _ fun _ _ => List.length_zipWith.trans_le (Nat.min_le_left ..)
  | vqnorm _ _ _ | vznorm _ _ _ | vr2f _ _ _ => exact vectorUnary_keepsBuffer ok _ _ _ _ _ _
  | vqsca _ _ _ _ _ | vf2r _ _ _ | synq _ _ _ | synr _ _ _ =>
    simp only [execVqsca, execVf2r, execSynq, execSynr]
    exact runCommand_keepsBuffer_of_write ok (.tail _ (.head _)) rfl rfl fun _ => elemBytes_length_le (by simp [scaVec])
  | expz a b c => exact execExpz_keepsBuffer ok a b c
  | xsqz a b => exact execXsqz_keepsBuffer ok a b
  | hash a b c => exact execHash_keepsBuffer ok a b c
  | smpq _ _ | smpqs _ _ | smpz _ _ => exact sampleCommand_keepsBuffer ok _ _ _ _ _
  | fwexp a b => exact execFwexp_keepsBuffer ok a b
  | pack a b d sel => exact execPack_keepsBuffer ok a b d sel
  | unpack a b d sel => exact execUnpack_keepsBuffer ok a b d sel
  | stbuild a b c => exact execStbuild_keepsBuffer ok a b c
  | stdisc a b c d e => exact execStdisc_keepsBuffer ok a b c d e
  | streb a b c d e => exact execStreb_keepsBuffer ok a b c d e
  | mtroot a b => exact execMtroot_keepsBuffer ok a b
  | mtproof a b d e => exact execMtproof_keepsBuffer ok a b d e
  | mtrecomp a b c d e => exact execMtrecomp_keepsBuffer ok a b c d e
  | keygen a b => exact execKeygen_keepsBuffer ok a b
  | sign a b c d => exact execSign_keepsBuffer ok a b c d
  | verify a b c d e => exact execVerify_keepsBuffer ok a b c d e

theorem runWord_keepsBuffer (w : Word) : KeepsBuffer (runWord w s) := by
  intro t h
  rcases runWord_cases h with ⟨i, run⟩ | rfl
  · exact exec_keepsBuffer ok i t run
  · exact ok.congr (s.takeFault_buf _ w) (s.takeFault_bufBytes _ w)

end Commands

/-- Settles O11: a step is an access of the host, the start of a command word or the run of one, and each keeps BUF
canonical and inside its bounds. -/
theorem stepKeepsBufferInsideItsBounds : Obligations.StepKeepsBufferInsideItsBounds := by
  intro s t ok h
  obtain ⟨rest, cases⟩ := step_cases h
  have taken : BufferOk { s with host := rest } := ok.congr rfl rfl
  rcases cases with rfl | ⟨a, rfl⟩ | ⟨w, rfl | run⟩
  · exact taken
  · exact taken.access a
  · exact taken.congr rfl rfl
  · exact runWord_keepsBuffer taken w t run

end Sys2Proof.Machine
end

section
/-! The decoder against the encoder and the opcode map (30_encoding R131, R133 to R135, R140 to R142, R162): what each
reader makes of an assembled word, which bits of a word it requires to be 0, and the row of the map at which a word is
read. Settles O4, O5, O6 and O3. -/

namespace Sys2Proof

/-! ### Reading back an assembled word (30_encoding R162) -/

section Assembled

variable {op : Nat} (opcode : op < 256) (a b c d e : Reg) (sel : Sel) (imm : Imm16)
include opcode

theorem fields_wordR :
    fieldA (wordR op a b c d e sel) = a ∧ fieldB (wordR op a b c d e sel) = b ∧
      fieldC (wordR op a b c d e sel) = c ∧ fieldD (wordR op a b c d e sel) = d ∧
      fieldE (wordR op a b c d e sel) = e ∧ fieldSel (wordR op a b c d e sel) = sel :=
  ⟨fieldA_wordR _ _ _ _ _ _ _ opcode, fieldB_wordR _ _ _ _ _ _ _ opcode, fieldC_wordR _ _ _ _ _ _ _ opcode,
    fieldD_wordR _ _ _ _ _ _ _ opcode, fieldE_wordR _ _ _ _ _ _ _ opcode, fieldSel_wordR _ _ _ _ _ _ _ opcode⟩

theorem fields_wordI :
    fieldA (wordI op a imm) = a ∧ fieldB (wordI op a imm) = 0 ∧ fieldImm (wordI op a imm) = imm :=
  ⟨fieldA_wordI op a imm opcode, fieldB_wordI op a imm opcode, fieldImm_wordI op a imm opcode⟩

theorem readNone_wordR (f : Instr) : readNone f (wordR op 0 0 0 0 0 0) = .ok f := by
  simp [readNone, fields_wordR opcode]

theorem readAI_wordI (f : Reg → Imm16 → Instr) : readAI f (wordI op a imm) = .ok (f a imm) := by
  simp [readAI, fields_wordI opcode]

theorem readI_wordI (f : Imm16 → Instr) : readI f (wordI op 0 imm) = .ok (f imm) := by
  simp [readI, fields_wordI opcode]

theorem readAB_wordR (f : Reg → Reg → Instr) : readAB f (wordR op a b 0 0 0 0) = .ok (f a b) := by
  simp [readAB, fields_wordR opcode]

theorem readBC_wordR (f : Reg → Reg → Instr) : readBC f (wordR op 0 b c 0 0 0) = .ok (f b c) := by
  simp [readBC, fields_wordR opcode]

theorem readAD_wordR (f : Reg → Reg → Instr) : readAD f (wordR op a 0 0 d 0 0) = .ok (f a d) := by
  simp [readAD, fields_wordR opcode]

theorem readABC_wordR (f : Reg → Reg → Reg → Instr) : readABC f (wordR op a b c 0 0 0) = .ok (f a b c) := by
  simp [readABC, fields_wordR opcode]

theorem readABD_wordR (f : Reg → Reg → Reg → Instr) : readABD f (wordR op a b 0 d 0 0) = .ok (f a b d) := by
  simp [readABD, fields_wordR opcode]

theorem readABCD_wordR (f : Reg → Reg → Reg → Reg → Instr) : readABCD f (wordR op a b c d 0 0) = .ok (f a b c d) := by
  simp [readABCD, fields_wordR opcode]

theorem readABDE_wordR (f : Reg → Reg → Reg → Reg → Instr) : readABDE f (wordR op a b 0 d e 0) = .ok (f a b d e) := by
  simp [readABDE, fields_wordR opcode]

theorem readABDS_wordR (f : Reg → Reg → Reg → Sel → Instr) {sel : Sel} (legal : sel.toNat ≤ 1) :
    readABDS f (wordR op a b 0 d 0 sel) = .ok (f a b d sel) := by
  simp [readABDS, fields_wordR opcode, legal]

theorem readABCDE_wordR (f : Reg → Reg → Reg → Reg → Reg → Instr) :
    readABCDE f (wordR op a b c d e 0) = .ok (f a b c d e) := by
  simp [readABCDE, fields_wordR opcode]

end Assembled

/-- Settles O4: the opcode of the word of a command selects the command's reader, and that reader reads back the
operands; the cases stand together by the fields they use. -/
theorem decodeOfEncodeIsTheCommand : Obligations.DecodeOfEncodeIsTheCommand := by
  intro i wf
  cases i with
  | nop | xinit | xfin => simp (disch := decide) only [encode, decode, opcodeOf_wordR, readNone_wordR]
  | movi _ _ | movhi _ _ => simp (disch := decide) only [encode, decode, opcodeOf_wordI, readAI_wordI]
  | xabsi _ => simp (disch := decide) only [encode, decode, opcodeOf_wordI, readI_wordI]
  | fqnorm _ _ | fqinv _ _ | r2f _ _ | ingrp _ _ | f2r _ _ | fznorm _ _ | fzinv _ _ | xsqz _ _ | fwexp _ _
  | mtroot _ _ | keygen _ _ => simp (disch := decide) only [encode, decode, opcodeOf_wordR, readAB_wordR]
  | xabs _ _ => simp (disch := decide) only [encode, decode, opcodeOf_wordR, readBC_wordR]
  | smpq _ _ | smpqs _ _ | smpz _ _ => simp (disch := decide) only [encode, decode, opcodeOf_wordR, readAD_wordR]
  | fqadd _ _ _ | fqsub _ _ _ | fqmul _ _ _ | fzadd _ _ _ | fzsub _ _ _ | fzmul _ _ _ | synq _ _ _ | synr _ _ _
  | expz _ _ _ | hash _ _ _ | stbuild _ _ _ =>
    simp (disch := decide) only [encode, decode, opcodeOf_wordR, readABC_wordR]
  | vqnorm _ _ _ | vr2f _ _ _ | vingrp _ _ _ | vf2r _ _ _ | vznorm _ _ _ =>
    simp (disch := decide) only [encode, decode, opcodeOf_wordR, readABD_wordR]
  | vqadd _ _ _ _ | vqsub _ _ _ _ | vqmul _ _ _ _ | vzsub _ _ _ _ | sign _ _ _ _ =>
    simp (disch := decide) only [encode, decode, opcodeOf_wordR, readABCD_wordR]
  | mtproof _ _ _ _ => simp (disch := decide) only [encode, decode, opcodeOf_wordR, readABDE_wordR]
  | pack _ _ _ sel | unpack _ _ _ sel =>
    have legal : sel.toNat ≤ 1 := of_decide_eq_true wf
    simp (disch := decide) only [encode, decode, opcodeOf_wordR]
    exact readABDS_wordR (by decide) _ _ _ _ legal
  | vqsca _ _ _ _ _ | stdisc _ _ _ _ _ | streb _ _ _ _ _ | mtrecomp _ _ _ _ _ | verify _ _ _ _ _ =>
    simp (disch := decide) only [encode, decode, opcodeOf_wordR, readABCDE_wordR]

/-! ### The bits a reader requires to be 0 (30_encoding R141) -/

/-- A word is its opcode and its fields. -/
theorem wordR_fields (w : Word) :
    wordR (opcodeOf w).toNat (fieldA w) (fieldB w) (fieldC w) (fieldD w) (fieldE w) (fieldSel w) = w := by
  apply BitVec.eq_of_toNat_eq
  have := w.isLt
  rw [wordR_toNat _ _ _ _ _ _ _ (opcodeOf w).isLt]
  simp only [opcodeOf, fieldA, fieldB, fieldC, fieldD, fieldE, fieldSel, BitVec.extractLsb'_toNat,
    Nat.shiftRight_eq_div_pow]
  omega

/-- A word with field B 0 is its opcode, its field A and its immediate. -/
theorem wordI_fields {w : Word} (unused : fieldB w = 0) :
    wordI (opcodeOf w).toNat (fieldA w) (fieldImm w) = w := by
  apply BitVec.eq_of_toNat_eq
  have := w.isLt
  have fieldB_eq : (fieldB w).toNat = 0 := congrArg BitVec.toNat unused
  rw [wordI_toNat _ _ _ (opcodeOf w).isLt]
  simp only [opcodeOf, fieldA, fieldB, fieldImm, BitVec.extractLsb'_toNat, Nat.shiftRight_eq_div_pow] at fieldB_eq ⊢
  omega

/-- A field is 0 exactly when the word has no bit under the field's mask. -/
theorem extractLsb'_eq_zero_iff (w : Word) (k n : Nat) :
    w.extractLsb' k n = 0 ↔ w &&& ((BitVec.allOnes n).setWidth 32 <<< k) = 0 := by
  constructor
  · intro zero
    apply BitVec.eq_of_getLsbD_eq
    intro i hi
    have bit := congrArg (·.getLsbD (i - k)) zero
    simp only [BitVec.ofNat_eq_ofNat, BitVec.getLsbD_extractLsb', BitVec.getLsbD_zero, BitVec.getLsbD_and,
      BitVec.getLsbD_shiftLeft, BitVec.getLsbD_setWidth, BitVec.getLsbD_allOnes] at bit ⊢
    grind
  · intro zero
    apply BitVec.eq_of_getLsbD_eq
    intro i hi
    have bit := congrArg (·.getLsbD (k + i)) zero
    simp only [BitVec.ofNat_eq_ofNat, BitVec.getLsbD_extractLsb', BitVec.getLsbD_zero, BitVec.getLsbD_and,
      BitVec.getLsbD_shiftLeft, BitVec.getLsbD_setWidth, BitVec.getLsbD_allOnes] at bit ⊢
    grind

theorem fieldA_eq_zero_iff {w : Word} : fieldA w = 0 ↔ w &&& 0x00F00000#32 = 0 := extractLsb'_eq_zero_iff w 20 4
theorem fieldB_eq_zero_iff {w : Word} : fieldB w = 0 ↔ w &&& 0x000F0000#32 = 0 := extractLsb'_eq_zero_iff w 16 4
theorem fieldC_eq_zero_iff {w : Word} : fieldC w = 0 ↔ w &&& 0x0000F000#32 = 0 := extractLsb'_eq_zero_iff w 12 4
theorem fieldD_eq_zero_iff {w : Word} : fieldD w = 0 ↔ w &&& 0x00000F00#32 = 0 := extractLsb'_eq_zero_iff w 8 4
theorem fieldE_eq_zero_iff {w : Word} : fieldE w = 0 ↔ w &&& 0x000000F0#32 = 0 := extractLsb'_eq_zero_iff w 4 4
theorem fieldSel_eq_zero_iff {w : Word} : fieldSel w = 0 ↔ w &&& 0x0000000F#32 = 0 := extractLsb'_eq_zero_iff w 0 4

/-- `sel` is 0 or 1 exactly when bits 3:1 are 0 (30_encoding R135). -/
theorem fieldSel_le_one_iff {w : Word} : (fieldSel w).toNat ≤ 1 ↔ w &&& 0x0000000E#32 = 0 := by
  have bits : w.extractLsb' 1 3 = 0 ↔ w &&& 0x0000000E#32 = 0 := extractLsb'_eq_zero_iff w 1 3
  rw [← bits, ← BitVec.toNat_inj]
  simp only [fieldSel, BitVec.extractLsb'_toNat, Nat.shiftRight_eq_div_pow, BitVec.ofNat_eq_ofNat, BitVec.toNat_ofNat]
  omega

theorem and_or_eq_zero_iff {w x y : Word} : w &&& (x ||| y) = 0 ↔ w &&& x = 0 ∧ w &&& y = 0 := by
  rw [BitVec.and_or_distrib_left]
  exact BitVec.or_eq_zero_iff

/-! ### What each reader makes of a word -/

/-- The reading `o` of the word `w` at a row of the opcode map whose unused fields are the bits of `unused`: the word is
legal when they are all 0, and is then the word of what it decodes to (30_encoding R141). -/
structure ReadsAt (unused w : Word) (o : Except DecodeError Instr) : Prop where
  legal : w &&& unused = 0 → ∃ i, o = .ok i ∧ i.wellFormed = true ∧ encode i = w
  illegal : w &&& unused ≠ 0 → o = .error .fieldNotZero

/-- A reader's test of its unused fields is the test of their bits. -/
theorem ReadsAt.of_test {unused w : Word} {test : Prop} [Decidable test] {i : Instr}
    (bits : test ↔ w &&& unused = 0) (word : test → i.wellFormed = true ∧ encode i = w) :
    ReadsAt unused w (if test then .ok i else .error .fieldNotZero) where
  legal zero := ⟨i, if_pos (bits.mpr zero), word (bits.mpr zero)⟩
  illegal nonzero := if_neg fun passed => nonzero (bits.mp passed)

section Readers

variable {w : Word} {op : Nat} (opcode : (opcodeOf w).toNat = op)
include opcode

theorem readNone_readsAt {f : Instr} (word : f.wellFormed = true ∧ encode f = wordR op 0 0 0 0 0 0) :
    ReadsAt 0x00FFFFFF#32 w (readNone f w) := by
  refine .of_test ?_ fun ⟨hA, hB, hC, hD, hE, hS⟩ => ⟨word.1, ?_⟩
  · simp only [fieldA_eq_zero_iff, fieldB_eq_zero_iff, fieldC_eq_zero_iff, fieldD_eq_zero_iff,
      fieldE_eq_zero_iff, fieldSel_eq_zero_iff, ← and_or_eq_zero_iff]
    rfl
  · rw [word.2, ← opcode]
    simpa only [hA, hB, hC, hD, hE, hS] using wordR_fields w

theorem readAI_readsAt {f : Reg → Imm16 → Instr}
    (word : ∀ a imm, (f a imm).wellFormed = true ∧ encode (f a imm) = wordI op a imm) :
    ReadsAt 0x000F0000#32 w (readAI f w) := by
  refine .of_test fieldB_eq_zero_iff fun hB => ⟨(word ..).1, ?_⟩
  rw [(word ..).2, ← opcode, wordI_fields hB]

theorem readI_readsAt {f : Imm16 → Instr}
    (word : ∀ imm, (f imm).wellFormed = true ∧ encode (f imm) = wordI op 0 imm) :
    ReadsAt 0x00FF0000#32 w (readI f w) := by
  refine .of_test ?_ fun ⟨hA, hB⟩ => ⟨(word ..).1, ?_⟩
  · simp only [fieldA_eq_zero_iff, fieldB_eq_zero_iff, ← and_or_eq_zero_iff]
    rfl
  · rw [(word ..).2, ← opcode, ← hA, wordI_fields hB]

theorem readAB_readsAt {f : Reg → Reg → Instr}
    (word : ∀ a b, (f a b).wellFormed = true ∧ encode (f a b) = wordR op a b 0 0 0 0) :
    ReadsAt 0x0000FFFF#32 w (readAB f w) := by
  refine .of_test ?_ fun ⟨hC, hD, hE, hS⟩ => ⟨(word ..).1, ?_⟩
  · simp only [fieldC_eq_zero_iff, fieldD_eq_zero_iff, fieldE_eq_zero_iff, fieldSel_eq_zero_iff, ← and_or_eq_zero_iff]
    rfl
  · rw [(word ..).2, ← opcode]
    simpa only [hC, hD, hE, hS] using wordR_fields w

theorem readBC_readsAt {f : Reg → Reg → Instr}
    (word : ∀ b c, (f b c).wellFormed = true ∧ encode (f b c) = wordR op 0 b c 0 0 0) :
    ReadsAt 0x00F00FFF#32 w (readBC f w) := by
  refine .of_test ?_ fun ⟨hA, hD, hE, hS⟩ => ⟨(word ..).1, ?_⟩
  · simp only [fieldA_eq_zero_iff, fieldD_eq_zero_iff, fieldE_eq_zero_iff, fieldSel_eq_zero_iff, ← and_or_eq_zero_iff]
    rfl
  · rw [(word ..).2, ← opcode]
    simpa only [hA, hD, hE, hS] using wordR_fields w

theorem readAD_readsAt {f : Reg → Reg → Instr}
    (word : ∀ a d, (f a d).wellFormed = true ∧ encode (f a d) = wordR op a 0 0 d 0 0) :
    ReadsAt 0x000FF0FF#32 w (readAD f w) := by
  refine .of_test ?_ fun ⟨hB, hC, hE, hS⟩ => ⟨(word ..).1, ?_⟩
  · simp only [fieldB_eq_zero_iff, fieldC_eq_zero_iff, fieldE_eq_zero_iff, fieldSel_eq_zero_iff, ← and_or_eq_zero_iff]
    rfl
  · rw [(word ..).2, ← opcode]
    simpa only [hB, hC, hE, hS] using wordR_fields w

theorem readABC_readsAt {f : Reg → Reg → Reg → Instr}
    (word : ∀ a b c, (f a b c).wellFormed = true ∧ encode (f a b c) = wordR op a b c 0 0 0) :
    ReadsAt 0x00000FFF#32 w (readABC f w) := by
  refine .of_test ?_ fun ⟨hD, hE, hS⟩ => ⟨(word ..).1, ?_⟩
  · simp only [fieldD_eq_zero_iff, fieldE_eq_zero_iff, fieldSel_eq_zero_iff, ← and_or_eq_zero_iff]
    rfl
  · rw [(word ..).2, ← opcode]
    simpa only [hD, hE, hS] using wordR_fields w

theorem readABD_readsAt {f : Reg → Reg → Reg → Instr}
    (word : ∀ a b d, (f a b d).wellFormed = true ∧ encode (f a b d) = wordR op a b 0 d 0 0) :
    ReadsAt 0x0000F0FF#32 w (readABD f w) := by
  refine .of_test ?_ fun ⟨hC, hE, hS⟩ => ⟨(word ..).1, ?_⟩
  · simp only [fieldC_eq_zero_iff, fieldE_eq_zero_iff, fieldSel_eq_zero_iff, ← and_or_eq_zero_iff]
    rfl
  · rw [(word ..).2, ← opcode]
    simpa only [hC, hE, hS] using wordR_fields w

theorem readABCD_readsAt {f : Reg → Reg → Reg → Reg → Instr}
    (word : ∀ a b c d, (f a b c d).wellFormed = true ∧ encode (f a b c d) = wordR op a b c d 0 0) :
    ReadsAt 0x000000FF#32 w (readABCD f w) := by
  refine .of_test ?_ fun ⟨hE, hS⟩ => ⟨(word ..).1, ?_⟩
  · simp only [fieldE_eq_zero_iff, fieldSel_eq_zero_iff, ← and_or_eq_zero_iff]
    rfl
  · rw [(word ..).2, ← opcode]
    simpa only [hE, hS] using wordR_fields w

theorem readABDE_readsAt {f : Reg → Reg → Reg → Reg → Instr}
    (word : ∀ a b d e, (f a b d e).wellFormed = true ∧ encode (f a b d e) = wordR op a b 0 d e 0) :
    ReadsAt 0x0000F00F#32 w (readABDE f w) := by
  refine .of_test ?_ fun ⟨hC, hS⟩ => ⟨(word ..).1, ?_⟩
  · simp only [fieldC_eq_zero_iff, fieldSel_eq_zero_iff, ← and_or_eq_zero_iff]
    rfl
  · rw [(word ..).2, ← opcode]
    simpa only [hC, hS] using wordR_fields w

theorem readABDS_readsAt {f : Reg → Reg → Reg → Sel → Instr}
    (word : ∀ a b d sel, sel.toNat ≤ 1 →
      (f a b d sel).wellFormed = true ∧ encode (f a b d sel) = wordR op a b 0 d 0 sel) :
    ReadsAt 0x0000F0FE#32 w (readABDS f w) := by
  refine .of_test ?_ fun ⟨hC, hE, hS⟩ => ⟨(word _ _ _ _ hS).1, ?_⟩
  · simp only [fieldC_eq_zero_iff, fieldE_eq_zero_iff, fieldSel_le_one_iff, ← and_or_eq_zero_iff]
    rfl
  · rw [(word _ _ _ _ hS).2, ← opcode]
    simpa only [hC, hE] using wordR_fields w

theorem readABCDE_readsAt {f : Reg → Reg → Reg → Reg → Reg → Instr}
    (word : ∀ a b c d e, (f a b c d e).wellFormed = true ∧ encode (f a b c d e) = wordR op a b c d e 0) :
    ReadsAt 0x0000000F#32 w (readABCDE f w) := by
  refine .of_test fieldSel_eq_zero_iff fun hS => ⟨(word ..).1, ?_⟩
  rw [(word ..).2, ← opcode]
  simpa only [hS] using wordR_fields w

end Readers

/-! ### The row of the opcode map at which a word is read (30_encoding R140 to R142) -/

/-- The opcode whose words a row of the map matches. -/
def OpcodeRow.opcode (r : OpcodeRow) : BitVec 8 := opcodeOf r.pattern

/-- The bits of the fields a row's command does not use: those of the mask outside the opcode. -/
def OpcodeRow.unused (r : OpcodeRow) : Word := r.mask &&& 0x00FFFFFF#32

/-- What the decoder does with the word `w`, `o` being its answer: it reads it at the row of the map that has its
opcode, or the map has no such row. -/
inductive DecodesBy (w : Word) (o : Except DecodeError Instr) : Prop where
  | row (r : OpcodeRow) (mem : r ∈ opcodeRows) (opcode : opcodeOf w = r.opcode) (reads : ReadsAt r.unused w o)
  | undefined (noRow : ∀ r ∈ opcodeRows, opcodeOf w ≠ r.opcode) (error : o = .error .undefinedOpcode)

theorem DecodesBy.of_readsAt {w unused : Word} {o : Except DecodeError Instr} {op : Nat}
    (reads : ReadsAt unused w o) (opcode : (opcodeOf w).toNat = op)
    (row : ∃ r ∈ opcodeRows, r.opcode.toNat = op ∧ r.unused = unused) : DecodesBy w o := by
  obtain ⟨r, mem, rowOpcode, rfl⟩ := row
  exact .row r mem (BitVec.eq_of_toNat_eq (opcode.trans rowOpcode.symm)) reads

/-- The opcodes of the map, in its order (30_encoding R140). -/
theorem opcodeRows_opcode : opcodeRows.map (·.opcode.toNat) =
    [0x00, 0x01, 0x02, 0x10, 0x11, 0x12, 0x13, 0x14, 0x15, 0x16, 0x17, 0x18, 0x19, 0x1A, 0x1B, 0x1C, 0x20, 0x21, 0x22,
      0x23, 0x24, 0x25, 0x26, 0x27, 0x28, 0x29, 0x2A, 0x2B, 0x2C, 0x30, 0x31, 0x32, 0x33, 0x34, 0x35, 0x36, 0x37, 0x38,
      0x39, 0x40, 0x41, 0x50, 0x51, 0x52, 0x58, 0x59, 0x5A, 0x60, 0x61, 0x62] := by decide

/-- Every word is read at its row, or its opcode is in none. The cases are the decoder's arms in the order of the opcode
map, grouped by reader: case 51 is its last arm. -/
theorem decode_decodesBy (w : Word) : DecodesBy w (decode w) := by
  fun_cases decode w
  case case1 | case30 | case33 => exact .of_readsAt (readNone_readsAt ‹_› ⟨rfl, rfl⟩) ‹_› (by decide)
  case case2 | case3 => exact .of_readsAt (readAI_readsAt ‹_› fun _ _ => ⟨rfl, rfl⟩) ‹_› (by decide)
  case case32 => exact .of_readsAt (readI_readsAt ‹_› fun _ => ⟨rfl, rfl⟩) ‹_› (by decide)
  case case7 | case8 | case9 | case10 | case11 | case15 | case16 | case34 | case39 | case45 | case48 =>
    exact .of_readsAt (readAB_readsAt ‹_› fun _ _ => ⟨rfl, rfl⟩) ‹_› (by decide)
  case case31 => exact .of_readsAt (readBC_readsAt ‹_› fun _ _ => ⟨rfl, rfl⟩) ‹_› (by decide)
  case case36 | case37 | case38 => exact .of_readsAt (readAD_readsAt ‹_› fun _ _ => ⟨rfl, rfl⟩) ‹_› (by decide)
  case case4 | case5 | case6 | case12 | case13 | case14 | case27 | case28 | case29 | case35 | case42 =>
    exact .of_readsAt (readABC_readsAt ‹_› fun _ _ _ => ⟨rfl, rfl⟩) ‹_› (by decide)
  case case20 | case22 | case23 | case24 | case26 =>
    exact .of_readsAt (readABD_readsAt ‹_› fun _ _ _ => ⟨rfl, rfl⟩) ‹_› (by decide)
  case case17 | case18 | case19 | case25 | case49 =>
    exact .of_readsAt (readABCD_readsAt ‹_› fun _ _ _ _ => ⟨rfl, rfl⟩) ‹_› (by decide)
  case case46 => exact .of_readsAt (readABDE_readsAt ‹_› fun _ _ _ _ => ⟨rfl, rfl⟩) ‹_› (by decide)
  case case40 | case41 =>
    exact .of_readsAt (readABDS_readsAt ‹_› fun _ _ _ _ sel => ⟨decide_eq_true sel, rfl⟩) ‹_› (by decide)
  case case21 | case43 | case44 | case47 | case50 =>
    exact .of_readsAt (readABCDE_readsAt ‹_› fun _ _ _ _ _ => ⟨rfl, rfl⟩) ‹_› (by decide)
  case case51 =>
    have noOpcode : (opcodeOf w).toNat ∉ opcodeRows.map (·.opcode.toNat) := by
      rw [opcodeRows_opcode]
      simp only [List.mem_cons, List.not_mem_nil, or_false, not_or]
      and_intros <;> assumption
    exact .undefined (fun r mem same => noOpcode (same ▸ List.mem_map_of_mem mem)) rfl

theorem opcodeRows_nodup : (opcodeRows.map (·.opcode.toNat)).Nodup := by
  rw [opcodeRows_opcode]
  decide

/-- The opcode alone selects the row (30_encoding R130). -/
theorem opcodeRows_inj {q r : OpcodeRow} (hq : q ∈ opcodeRows) (hr : r ∈ opcodeRows) (same : q.opcode = r.opcode) :
    q = r :=
  List.inj_on_of_nodup_map opcodeRows_nodup hq hr (congrArg BitVec.toNat same)

/-- A word with the opcode of a row is read at that row. -/
theorem decode_readsAt {w : Word} {r : OpcodeRow} (mem : r ∈ opcodeRows) (opcode : opcodeOf w = r.opcode) :
    ReadsAt r.unused w (decode w) := by
  cases decode_decodesBy w with
  | row q hq same reads => rwa [opcodeRows_inj mem hq (opcode.symm.trans same)]
  | undefined noRow => exact absurd opcode (noRow r mem)

/-- A word that decodes has the opcode of a row and 0 in the fields the row's command does not use. -/
theorem row_of_decode_eq_ok {w : Word} {i : Instr} (legal : decode w = .ok i) :
    ∃ r ∈ opcodeRows, opcodeOf w = r.opcode ∧ w &&& r.unused = 0 := by
  cases decode_decodesBy w with
  | row r mem opcode reads =>
    refine ⟨r, mem, opcode, by_contra fun nonzero => ?_⟩
    cases legal.symm.trans (reads.illegal nonzero)
  | undefined _ error => cases legal.symm.trans error

/-- Settles O5: the word is read at its row with its unused fields 0, so it is the word of what is read there. -/
theorem legalWordIsTheEncodingOfItsCommand : Obligations.LegalWordIsTheEncodingOfItsCommand := by
  intro w i legal
  obtain ⟨r, mem, opcode, zero⟩ := row_of_decode_eq_ok legal
  obtain ⟨j, reads, word⟩ := (decode_readsAt mem opcode).legal zero
  cases legal.symm.trans reads
  exact word

/-! ### Masks and patterns -/

/-- Two words are the same when their opcodes and their other 24 bits are. -/
theorem word_ext {v w : Word} (opcode : opcodeOf v = opcodeOf w)
    (rest : v &&& 0x00FFFFFF#32 = w &&& 0x00FFFFFF#32) : v = w := by
  have high : v.toNat / 2 ^ 24 % 2 ^ 8 = w.toNat / 2 ^ 24 % 2 ^ 8 := by
    simpa only [opcodeOf, BitVec.extractLsb'_toNat, Nat.shiftRight_eq_div_pow] using congrArg BitVec.toNat opcode
  have low : v.toNat % 2 ^ 24 = w.toNat % 2 ^ 24 := by
    have masked := congrArg BitVec.toNat rest
    simp only [BitVec.toNat_and] at masked
    exact (Nat.and_two_pow_sub_one_eq_mod _ 24).symm.trans (masked.trans (Nat.and_two_pow_sub_one_eq_mod _ 24))
  apply BitVec.eq_of_toNat_eq
  have := v.isLt
  have := w.isLt
  omega

/-- Every mask holds the whole opcode, and every pattern nothing else (30_encoding R140). -/
theorem opcodeRows_shape : ∀ r ∈ opcodeRows,
    opcodeOf r.mask = BitVec.allOnes 8 ∧ r.pattern &&& 0x00FFFFFF#32 = 0 := by decide

/-- A word matches a row exactly when it has the row's opcode and 0 in the fields the row's command does not use. -/
theorem OpcodeRow.matches_iff {r : OpcodeRow} (mem : r ∈ opcodeRows) (w : Word) :
    w &&& r.mask = r.pattern ↔ opcodeOf w = r.opcode ∧ w &&& r.unused = 0 := by
  obtain ⟨mask_opcode, pattern_rest⟩ := opcodeRows_shape r mem
  have opcode_eq : opcodeOf (w &&& r.mask) = opcodeOf w :=
    calc opcodeOf (w &&& r.mask) = opcodeOf w &&& opcodeOf r.mask := BitVec.extractLsb'_and
      _ = opcodeOf w := by rw [mask_opcode, BitVec.and_allOnes]
  have rest_eq : (w &&& r.mask) &&& 0x00FFFFFF#32 = w &&& r.unused := BitVec.and_assoc ..
  constructor
  · intro same
    exact ⟨opcode_eq.symm.trans (congrArg opcodeOf same), by rw [← rest_eq, same, pattern_rest]⟩
  · rintro ⟨opcode, zero⟩
    exact word_ext (opcode_eq.trans opcode) (by rw [rest_eq, zero, pattern_rest])

/-- Settles O6: a word is read at the row with its opcode, and no two rows have the same opcode. -/
theorem legalWordsAreTheOpcodeTable : Obligations.LegalWordsAreTheOpcodeTable := by
  refine ⟨fun w => ⟨fun ⟨i, legal⟩ => ?_, fun ⟨r, mem, same⟩ => ?_⟩, ?_⟩
  · obtain ⟨r, mem, matched⟩ := row_of_decode_eq_ok legal
    exact ⟨r, mem, (r.matches_iff mem w).mpr matched⟩
  · obtain ⟨opcode, zero⟩ := (r.matches_iff mem w).mp same
    obtain ⟨i, reads, -⟩ := (decode_readsAt mem opcode).legal zero
    exact ⟨i, reads⟩
  · refine (List.pairwise_map.mp opcodeRows_nodup).imp_of_mem fun {q r} hq hr distinct w ⟨onQ, onR⟩ => distinct ?_
    have opcodeQ := ((q.matches_iff hq w).mp onQ).1
    have opcodeR := ((r.matches_iff hr w).mp onR).1
    exact congrArg BitVec.toNat (opcodeQ.symm.trans opcodeR)

/-! ### The words the spec writes out -/

theorem decode_of_encode_eq {w : Word} {i : Instr} (wf : i.wellFormed = true) (word : encode i = w) :
    decode w = .ok i :=
  word ▸ decodeOfEncodeIsTheCommand i wf

theorem decode_of_unused_ne_zero {w : Word}
    (row : ∃ r ∈ opcodeRows, opcodeOf w = r.opcode ∧ w &&& r.unused ≠ 0) :
    decode w = .error .fieldNotZero := by
  obtain ⟨r, mem, opcode, nonzero⟩ := row
  exact (decode_readsAt mem opcode).illegal nonzero

theorem decode_of_noRow {w : Word} (noRow : ∀ r ∈ opcodeRows, opcodeOf w ≠ r.opcode) :
    decode w = .error .undefinedOpcode := by
  cases decode_decodesBy w with
  | row r mem opcode _ => exact absurd opcode (noRow r mem)
  | undefined _ error => exact error

/-- Settles O3: the legal words are the words of the commands named, one of the others has an opcode outside the map and
the rest have a bit in an unused field. -/
theorem decodeReadsWordsOfTheSpec : Obligations.DecodeReadsWordsOfTheSpec :=
  ⟨decode_of_encode_eq rfl rfl, decode_of_encode_eq rfl rfl, decode_of_encode_eq rfl rfl, decode_of_encode_eq rfl rfl,
    decode_of_encode_eq rfl rfl, decode_of_encode_eq rfl rfl, decode_of_encode_eq rfl rfl, decode_of_encode_eq rfl rfl,
    decode_of_encode_eq rfl rfl, decode_of_encode_eq rfl rfl, decode_of_encode_eq rfl rfl, decode_of_encode_eq rfl rfl,
    decode_of_unused_ne_zero (by decide), decode_of_unused_ne_zero (by decide),
    decode_of_unused_ne_zero (by decide), decode_of_noRow (by decide)⟩

end Sys2Proof
end

section
/-! What the issue of an illegal word does (30_encoding R141, R142; 60_exceptions R452, R454). Settles O7. -/

namespace Sys2Proof.Machine

theorem runWord_of_decode_error {w : Word} {e : DecodeError} (illegal : decode w = .error e) (s : State) :
    runWord w s = .next (s.takeFault .illegal w) := by
  simp only [runWord, illegal]

/-- A fault leaves everything but the command's end and the fault registers as it was (60_exceptions R452). -/
theorem State.takeFault_kept (s : State) (c : FaultCode) (w : Word) : Kept {} s (s.takeFault c w) where
  regs _ _ := by simp [State.getX]
  bytes _ _ := by simp [State.byteAt]
  flags _ _ := by simp
  vfail _ := s.takeFault_vfail c w
  xof _ := ⟨s.takeFault_xph c w, s.takeFault_xin c w, s.takeFault_xpos c w⟩
  entropy _ := ⟨s.takeFault_entropyIn c w, s.takeFault_entropyCount c w⟩
  params := s.takeFault_params c w
  ctrl := s.takeFault_ctrl c w
  size := s.takeFault_bufBytes c w
  outside := ⟨s.takeFault_xofKnown c w, s.takeFault_freeCount c w, s.takeFault_host c w, s.takeFault_reply c w⟩
  attempts := s.takeFault_attempts c w

/-- What the fault entry records: the code and the word when ERR was 0, nothing when a fault was already recorded
(60_exceptions R452, R454). -/
theorem State.takeFault_records (s : State) (c : FaultCode) (w : Word) :
    (s.err = false → (s.takeFault c w).errcode = c.toWord ∧ (s.takeFault c w).errinfo = w) ∧
      (s.err = true → (s.takeFault c w).errcode = s.errcode ∧ (s.takeFault c w).errinfo = s.errinfo) := by
  rw [State.takeFault_errcode, State.takeFault_errinfo]
  constructor <;> intro err <;> simp [err]

/-- Settles O7: issued alone, or run when no access lands, the word does not decode and takes the fault; issued with an
access to land, it only starts. -/
theorem illegalWordFaults : Obligations.IllegalWordFaults := by
  intro s w e illegal faulted
  have run_faults : ∀ u : State, ∃ t, runWord w u = .next t ∧ faulted u t := fun u =>
    ⟨_, runWord_of_decode_error illegal u, u.takeFault_kept _ w, u.takeFault_running _ w, u.takeFault_pseq _ w,
      u.takeFault_done _ w, u.takeFault_err _ w, u.takeFault_ovr _ w, u.takeFault_records .illegal w⟩
  refine ⟨fun b rest idle script => ?_, fun running alone => ?_⟩
  · have issued : step s = issue w { s with host := rest } :=
      (step_of_idle idle script).trans (hostStep_cmd_of_idle w idle)
    rw [issued]
    refine ⟨fun alone => ?_, fun lands => ?_⟩
    · rw [issue, if_neg (by simp [alone])]
      exact run_faults _
    · exact ⟨_, if_pos lands, State.stayBusy_kept _ w, rfl, rfl, rfl, rfl⟩
  · rw [step_of_running running alone]
    exact run_faults s

end Sys2Proof.Machine
end

section
/-! How the word of a command and its completion follow from its row of the opcode map and its effect, and the commands
NOP, MOVI and MOVHI (40_system R170 to R172). Settles O23. -/

namespace Sys2Proof.Machine

/-! ### The word of a command (30_encoding R140, R141) -/

/-- The row of the opcode map with a command's opcode says which of its words are illegal. -/
theorem wordOf_of_row {op : Nat} {zero w : Word} {i : Instr} (word : encode i = w)
    (row : ∃ r ∈ opcodeRows, r.opcode.toNat = op ∧ r.unused = zero) : WordOf op zero i w := by
  refine ⟨word, fun wf => decode_of_encode_eq wf word, fun v s opcode nonzero => ?_⟩
  obtain ⟨r, mem, rowOpcode, rfl⟩ := row
  have same : opcodeOf v = r.opcode := BitVec.eq_of_toNat_eq (opcode.trans rowOpcode.symm)
  exact runWord_of_decode_error (decode_of_unused_ne_zero ⟨r, mem, same, nonzero⟩) s

/-! ### The completion of a command (10_state R41) -/

theorem Kept.refl (s : State) : Kept {} s s where
  regs _ _ := rfl
  bytes _ _ := rfl
  flags _ _ := rfl
  vfail _ := rfl
  xof _ := ⟨rfl, rfl, rfl⟩
  entropy _ := ⟨rfl, rfl⟩
  params := rfl
  ctrl := rfl
  size := rfl
  outside := ⟨rfl, rfl, rfl, rfl⟩
  attempts := rfl

/-- Ending a command changes nothing that a frame speaks of. -/
theorem Kept.complete {e : Writes} {s u : State} (kept : Kept e s u) : Kept e s u.complete := { kept with }

/-- A write of `x[r]` changes no other register and nothing else (00_scope R15). -/
theorem State.setX_kept (s : State) (r : Reg) (v : Nat) : Kept { regs := [r] } s (s.setX r v) :=
  { Kept.refl s with regs := fun _ other => s.getX_setX_of_ne v (List.ne_of_not_mem_cons other) }

theorem State.val_complete (s : State) (r : Reg) : s.complete.val r = s.val r := rfl

/-- A command that passes its tests completes with its effect. -/
theorem completes_of_runCommand {i : Instr} {s u : State} {checks : List Check} {e : Writes} {P : State → Prop}
    (run : exec i s = runCommand i s checks (.effect u)) (passed : firstFault checks = none) (shape : EffectShape s u)
    (kept : Kept e s u) (result : P u.complete) : Completes i s e P :=
  ⟨u.complete, run.trans (runCommand_effect i s u passed), shape.ended, kept.complete, result⟩

/-- A command that passes its tests and writes `v` to `x[a]` completes, and `x[a]` holds `v`. -/
theorem completes_of_runCommand_setX {i : Instr} {s : State} {checks : List Check} {a : Reg} {v : Nat}
    (run : exec i s = runCommand i s checks (.effect (s.setX a v))) (passed : firstFault checks = none)
    (small : v < 2 ^ 32) : Completes i s { regs := [a] } (fun t => t.val a = v) :=
  completes_of_runCommand run passed (.setX s a v) (s.setX_kept a v)
    ((State.val_complete _ a).trans (s.val_setX_self a small))

/-! ### NOP, MOVI and MOVHI -/

/-- An immediate above the low half of a register value fits in 32 bits (40_system R172). -/
theorem movhi_value_lt (imm : Imm16) (v : Nat) : imm.toNat * 2 ^ 16 + v % 2 ^ 16 < 2 ^ 32 := by
  have := imm.isLt
  omega

/-- Settles O23: none of the three has a test, so each completes with its effect, and the value written fits in a
register. -/
theorem nopAndMoves : Obligations.NopAndMoves := by
  intro s a imm
  refine ⟨⟨?nopWord, ?nop⟩, ⟨?moviWord, ?movi⟩, ?movhiWord, ?movhi⟩
  case nopWord | moviWord | movhiWord => exact wordOf_of_row rfl (by decide)
  case nop => exact completes_of_runCommand rfl firstFault_nil (.refl s) (.refl s) trivial
  case movi => exact completes_of_runCommand_setX rfl firstFault_nil (Nat.lt_trans imm.isLt (by decide))
  case movhi => exact completes_of_runCommand_setX rfl firstFault_nil (movhi_value_lt imm (s.val a))

end Sys2Proof.Machine
end

section
/-! The tests of a command taken one at a time, and what the functions behind the scalar commands compute: sums,
differences, products, canonical values and inverses modulo m, and the powers of g with their exponents (00_scope R17;
41_scalar R183 to R197; 60_exceptions R453). Settles O30. -/

namespace Sys2Proof.Machine

/-! ### The tests of a command, one at a time (60_exceptions R453) -/

/-- A command follows its rule from a test on when the rest of its run follows the rest of the rule. -/
theorem follows_cons {i : Instr} {s : State} {c : FaultCode} {passed : Bool} {ok : Prop} {checks : List Check}
    {r : Result} {tests : List (FaultCode × Prop)} {e : Writes} {P : State → Prop}
    (run : exec i s = runCommand i s ((c, passed) :: checks) r) (test : passed = true ↔ ok)
    (rest : ok → exec i s = runCommand i s checks r → Follows i s tests e P) : Follows i s ((c, ok) :: tests) e P := by
  constructor
  · intro fails
    have first : firstFault ((c, passed) :: checks) = some c :=
      firstFault_cons_false c checks (Bool.eq_false_iff.mpr fun h => fails (test.mp h))
    exact run.trans (runCommand_fault i s r first)
  · intro holds
    have first := firstFault_cons_true c checks (test.mpr holds)
    exact rest holds (run.trans (by simp only [runCommand, first]))

theorem Completes.weaken {i : Instr} {s : State} {e : Writes} {P R : State → Prop} (completes : Completes i s e P)
    (implies : ∀ t, P t → R t) : Completes i s e R := by
  obtain ⟨t, run, ended, kept, result⟩ := completes
  exact ⟨t, run, ended, kept, implies t result⟩

/-! ### Sums, differences, products and canonical values -/

theorem addMod_lt {m a b : Nat} (ha : a < m) : addMod m a b < m := Nat.mod_lt _ (Nat.zero_lt_of_lt ha)

theorem mulMod_lt {m a b : Nat} (ha : a < m) : mulMod m a b < m := Nat.mod_lt _ (Nat.zero_lt_of_lt ha)

theorem subMod_lt {m a b : Nat} (ha : a < m) : subMod m a b < m := by
  unfold subMod
  split <;> omega

/-- Below twice the modulus one conditional subtraction is the reduction (41_scalar R186, R196). -/
theorem normMod_eq_mod {m v : Nat} (h : v < 2 * m) : normMod m v = v % m := by
  unfold normMod
  split
  case isTrue above => rw [Nat.mod_eq_sub_mod above, Nat.mod_eq_of_lt (by omega)]
  case isFalse below => rw [Nat.mod_eq_of_lt (Nat.lt_of_not_le below)]

/-! ### Inverses (41_scalar R188, R197) -/

/-- A search that can succeed gives an element of the list that passes. -/
theorem getD_find?_spec {α : Type} {p : α → Bool} {xs : List α} (d : α) (found : ∃ x ∈ xs, p x = true) :
    p ((xs.find? p).getD d) = true ∧ (xs.find? p).getD d ∈ xs := by
  obtain ⟨y, hy⟩ := Option.isSome_iff_exists.mp (List.find?_isSome.mpr found)
  rw [hy]
  exact ⟨List.find?_some hy, List.mem_of_find?_eq_some hy⟩

/-- A unit has an inverse below the modulus, so the search for it succeeds. -/
theorem invMod_spec {m a : Nat} (hm : 1 < m) (unit : Nat.gcd a m = 1) :
    (1 ≤ invMod m a ∧ a * invMod m a % m = 1) ∧ invMod m a < m := by
  obtain ⟨r, below, inverse⟩ := Nat.exists_mul_mod_eq_one_of_coprime unit hm
  have pos : 1 ≤ r := Nat.one_le_iff_ne_zero.mpr fun zero => by simp [zero] at inverse
  obtain ⟨passes, mem⟩ := getD_find?_spec (p := fun r => decide (1 ≤ r ∧ a * r % m = 1)) 0
    ⟨r, List.mem_range.mpr below, decide_eq_true ⟨pos, inverse⟩⟩
  exact ⟨of_decide_eq_true passes, List.mem_range.mp mem⟩

/-- A unit can be cancelled, so it has one inverse below the modulus. -/
theorem inverse_unique {m a q r : Nat} (unit : Nat.gcd a m = 1) (hq : q < m) (hr : r < m)
    (inverseQ : a * q % m = 1) (inverseR : a * r % m = 1) : q = r :=
  (Nat.ModEq.cancel_left_of_coprime (m := m) ((Nat.gcd_comm m a).trans unit)
    (inverseQ.trans inverseR.symm)).eq_of_lt_of_lt hq hr

/-! ### The powers of g (00_scope R17, 41_scalar R189 to R193) -/

theorem Params.Q_lt (p : Params) : p.Q < 2 ^ 32 := p.q.isLt

theorem Params.Z_lt (p : Params) : p.Z < 2 ^ 32 := p.z.isLt

theorem Params.inG_iff (p : Params) (v : Nat) : p.inG v = true ↔ ∃ e < p.Z, p.emb e = v := by
  simp only [Params.inG, List.any_eq_true, List.mem_range, beq_iff_eq]

/-- The exponent found for a member is one of its exponents below Z. -/
theorem Params.dlog_spec {p : Params} {v : Nat} (member : p.inG v = true) : p.emb (p.dlog v) = v ∧ p.dlog v < p.Z := by
  obtain ⟨passes, mem⟩ := getD_find?_spec 0 (List.any_eq_true.mp member)
  exact ⟨beq_iff_eq.mp passes, List.mem_range.mp mem⟩

theorem Params.dlog_of_not_inG {p : Params} {v : Nat} (outside : p.inG v = false) : p.dlog v = 0 := by
  have none_found : (List.range p.Z).find? (fun e => p.emb e == v) = none :=
    List.find?_eq_none.mpr (List.any_eq_false.mp outside)
  rw [Params.dlog, none_found, Option.getD_none]

/-- Whatever the operand, the logarithm fits in a register: it is below Z for a member and 0 for any other value. -/
theorem Params.dlog_lt (p : Params) (v : Nat) : p.dlog v < 2 ^ 32 := by
  cases member : p.inG v
  case true => exact Nat.lt_trans (Params.dlog_spec member).2 p.Z_lt
  case false => rw [Params.dlog_of_not_inG member]; decide

section ValidParameters

variable {p : Params} (valid : p.valid = true)
include valid

theorem Params.one_lt_Q : 1 < p.Q := by
  obtain ⟨-, -, -, -, hQ, -⟩ := Params.valid_inBounds valid
  omega

theorem Params.one_lt_Z : 1 < p.Z := by
  obtain ⟨-, -, -, -, -, -, hZ, -⟩ := Params.valid_inBounds valid
  exact hZ

theorem Params.emb_lt (e : Nat) : p.emb e < p.Q :=
  Nat.mod_lt _ (Nat.zero_lt_of_lt (Params.one_lt_Q valid))

theorem Params.modEq_one_iff {x : Nat} : x ≡ 1 [MOD p.Q] ↔ x % p.Q = 1 := by
  rw [Nat.ModEq, Nat.mod_eq_of_lt (Params.one_lt_Q valid)]

theorem Params.pow_Z_modEq_one : p.G ^ p.Z ≡ 1 [MOD p.Q] :=
  (Params.modEq_one_iff valid).mpr (Params.valid_order valid).1

/-- Every power of g is a unit modulo Q, g having an order. -/
theorem Params.pow_G_coprime (e : Nat) : Nat.Coprime (p.G ^ e) p.Q := by
  have power : p.G * p.G ^ (p.Z - 1) ≡ 1 [MOD p.Q] := by
    rw [mul_pow_sub_one (Nat.ne_zero_of_lt (Params.one_lt_Z valid))]
    exact Params.pow_Z_modEq_one valid
  exact (Nat.coprime_of_mul_modEq_one _ power).pow_left e

/-- Exponents count modulo Z. -/
theorem Params.emb_mod (e : Nat) : p.emb (e % p.Z) = p.emb e := by
  have whole : p.G ^ (p.Z * (e / p.Z)) ≡ 1 [MOD p.Q] := by
    simpa [Nat.pow_mul] using (Params.pow_Z_modEq_one valid).pow (e / p.Z)
  have reduced : p.G ^ e ≡ p.G ^ (e % p.Z) [MOD p.Q] := by
    conv_lhs => rw [← Nat.mod_add_div e p.Z, Nat.pow_add]
    simpa using whole.mul_left (p.G ^ (e % p.Z))
  exact reduced.symm

/-- Adding exponents multiplies the embedded elements (41_scalar R193). -/
theorem Params.emb_addMod (x y : Nat) : p.emb (addMod p.Z x y) = mulMod p.Q (p.emb x) (p.emb y) :=
  calc p.emb (addMod p.Z x y) = p.emb (x + y) := Params.emb_mod valid _
    _ = p.G ^ x * p.G ^ y % p.Q := by rw [Params.emb, Nat.pow_add]
    _ = mulMod p.Q (p.emb x) (p.emb y) := Nat.mul_mod ..

theorem Params.emb_ne_zero (e : Nat) : p.emb e ≠ 0 := by
  intro zero
  have one : p.Q = 1 := Nat.eq_one_of_dvd_coprimes (Params.pow_G_coprime valid e) (Nat.dvd_of_mod_eq_zero zero) dvd_rfl
  exact (Params.one_lt_Q valid).ne' one

/-- No power of g comes back before Z: cancelling the smaller power would leave a 1 with an exponent below Z. -/
theorem Params.emb_ne_of_lt {d e : Nat} (lt : d < e) (he : e < p.Z) : p.emb d ≠ p.emb e := by
  intro same
  have powers : p.G ^ d * p.G ^ (e - d) ≡ p.G ^ d * 1 [MOD p.Q] := by
    rw [← Nat.pow_add, Nat.add_sub_cancel' (Nat.le_of_lt lt), Nat.mul_one]
    exact same.symm
  have one : p.G ^ (e - d) ≡ 1 [MOD p.Q] := powers.cancel_left_of_coprime (Params.pow_G_coprime valid d).symm
  obtain ⟨-, not_one⟩ := Params.valid_order valid
  exact not_one (e - d) (by omega) (by omega) ((Params.modEq_one_iff valid).mp one)

theorem Params.emb_inj {d e : Nat} (hd : d < p.Z) (he : e < p.Z) (same : p.emb d = p.emb e) : d = e := by
  rcases Nat.lt_trichotomy d e with lt | eq | gt
  · exact absurd same (Params.emb_ne_of_lt valid lt he)
  · exact eq
  · exact absurd same.symm (Params.emb_ne_of_lt valid gt hd)

theorem Params.dlog_emb {e : Nat} (he : e < p.Z) : p.dlog (p.emb e) = e := by
  obtain ⟨power, below⟩ := Params.dlog_spec ((p.inG_iff _).mpr ⟨e, he, rfl⟩)
  exact Params.emb_inj valid below he power

end ValidParameters

/-- Settles O30: the exponents below Z have distinct powers, so the one found is the one embedded, and exponents count
modulo Z. -/
theorem exponentMapIsAnIsomorphism : Obligations.ExponentMapIsAnIsomorphism := fun p valid =>
  ⟨fun e he => ⟨Params.dlog_emb valid he, (p.inG_iff _).mpr ⟨e, he, rfl⟩⟩, fun _ member => Params.dlog_spec member,
    fun a _ b _ => Params.emb_addMod valid a b⟩

end Sys2Proof.Machine
end

section
/-! The thirteen scalar commands: what each shape of a scalar command makes of its functions, and each command as one use
of its shape (41_scalar R180 to R197). Settles O24 to O29. -/

namespace Sys2Proof.Machine

/-! ### The shapes of a scalar command (41_scalar R180) -/

/-- A two-operand command follows its rule when its function gives a canonical value on canonical operands. -/
theorem scalarBinaryRule {op : Nat} {i : Reg → Reg → Reg → Instr} {m : Params → Nat} {f : Nat → Nat → Nat → Nat}
    (word : ∀ a b c, encode (i a b c) = wordR op a b c 0 0 0)
    (row : ∃ r ∈ opcodeRows, r.opcode.toNat = op ∧ r.unused = 0x000FFF#32)
    (run : ∀ s a b c, exec (i a b c) s = scalarBinary (i a b c) (m s.params) (f (m s.params)) a b c s)
    (modulus : ∀ p, m p < 2 ^ 32) (canonical : ∀ q x y, x < q → f q x y < q) : ScalarBinaryRule op i m f := by
  intro s a b c
  refine ⟨wordOf_of_row (word a b c) row, follows_cons (run s a b c) Iff.rfl fun _ run =>
    follows_cons run decide_eq_true_iff fun ⟨below, _⟩ run => ?_⟩
  exact completes_of_runCommand_setX run firstFault_nil (Nat.lt_trans (canonical _ _ _ below) (modulus _))

/-- A one-operand command follows its rule when its function gives the value of the rule on the operands it admits, and
that value fits in a register. -/
theorem scalarUnaryRule {op : Nat} {i : Reg → Reg → Instr} {bound : Params → Nat} {g f : Params → Nat → Nat}
    (word : ∀ a b, encode (i a b) = wordR op a b 0 0 0 0)
    (row : ∃ r ∈ opcodeRows, r.opcode.toNat = op ∧ r.unused = 0x00FFFF#32)
    (run : ∀ s a b, exec (i a b) s = scalarUnary (i a b) (bound s.params) (g s.params) a b s)
    (value : ∀ p v, p.valid = true → v < bound p → g p v = f p v ∧ f p v < 2 ^ 32) : ScalarUnaryRule op i bound f := by
  intro s a b
  refine ⟨wordOf_of_row (word a b) row, follows_cons (run s a b) Iff.rfl fun valid run =>
    follows_cons run decide_eq_true_iff fun below run => ?_⟩
  obtain ⟨same, fits⟩ := value s.params (s.val b) valid below
  rw [same] at run
  exact completes_of_runCommand_setX run firstFault_nil fits

/-- Canonicalisation follows its rule: one conditional subtraction is the reduction on the operands it admits
(41_scalar R186, R196). -/
theorem scalarNormRule {op : Nat} {i : Reg → Reg → Instr} {m : Params → Nat}
    (word : ∀ a b, encode (i a b) = wordR op a b 0 0 0 0)
    (row : ∃ r ∈ opcodeRows, r.opcode.toNat = op ∧ r.unused = 0x00FFFF#32)
    (run : ∀ s a b, exec (i a b) s = scalarUnary (i a b) (2 * m s.params) (normMod (m s.params)) a b s)
    (modulus : ∀ p, m p < 2 ^ 32) : ScalarUnaryRule op i (fun p => 2 * m p) (fun p v => v % m p) := by
  refine scalarUnaryRule (g := fun p => normMod (m p)) word row run fun p v _ below => ⟨normMod_eq_mod below, ?_⟩
  have below : v < 2 * m p := below
  exact Nat.lt_trans (Nat.mod_lt v (by omega)) (modulus p)

/-- A modular inverse follows its rule: a unit has exactly one inverse below a modulus above 1 (41_scalar R188,
R197). -/
theorem inverseRule {op : Nat} {i : Reg → Reg → Instr} {m : Params → Nat}
    (word : ∀ a b, encode (i a b) = wordR op a b 0 0 0 0)
    (row : ∃ r ∈ opcodeRows, r.opcode.toNat = op ∧ r.unused = 0x00FFFF#32)
    (run : ∀ s a b, exec (i a b) s = scalarInverse (i a b) (m s.params) a b s)
    (modulus : ∀ p, p.valid = true → 1 < m p ∧ m p < 2 ^ 32) : InverseRule op i m := by
  intro s a b
  refine ⟨wordOf_of_row (word a b) row, follows_cons (run s a b) Iff.rfl fun valid run =>
    follows_cons run decide_eq_true_iff fun _ run => follows_cons run decide_eq_true_iff fun unit run => ?_⟩
  obtain ⟨large, fits⟩ := modulus s.params valid
  obtain ⟨⟨pos, inverse⟩, below⟩ := invMod_spec large unit
  refine (completes_of_runCommand_setX run firstFault_nil (Nat.lt_trans below fits)).weaken fun t value => ?_
  simp only [value]
  exact ⟨pos, below, inverse, fun r _ hr inverseR => inverse_unique unit hr below inverseR inverse⟩

/-! ### Sums, differences and products -/

/-- Settles O24: each function keeps canonical operands canonical. -/
theorem scalarSumDifferenceProductModQ : Obligations.ScalarSumDifferenceProductModQ :=
  ⟨scalarBinaryRule (fun _ _ _ => rfl) (by decide) (fun _ _ _ _ => rfl) Params.Q_lt fun _ _ _ => addMod_lt,
    scalarBinaryRule (fun _ _ _ => rfl) (by decide) (fun _ _ _ _ => rfl) Params.Q_lt fun _ _ _ => subMod_lt,
    scalarBinaryRule (fun _ _ _ => rfl) (by decide) (fun _ _ _ _ => rfl) Params.Q_lt fun _ _ _ => mulMod_lt⟩

/-- Settles O25: the same three functions modulo Z, and the embedding turns sums of exponents into products. -/
theorem scalarSumDifferenceProductModZ : Obligations.ScalarSumDifferenceProductModZ :=
  ⟨scalarBinaryRule (fun _ _ _ => rfl) (by decide) (fun _ _ _ _ => rfl) Params.Z_lt fun _ _ _ => addMod_lt,
    scalarBinaryRule (fun _ _ _ => rfl) (by decide) (fun _ _ _ _ => rfl) Params.Z_lt fun _ _ _ => subMod_lt,
    scalarBinaryRule (fun _ _ _ => rfl) (by decide) (fun _ _ _ _ => rfl) Params.Z_lt fun _ _ _ => mulMod_lt,
    fun _ valid x _ y _ => Params.emb_addMod valid x y⟩

/-! ### Canonicalisation, inverses and the powers of g -/

/-- Settles O26: the rule of canonicalisation at both moduli. -/
theorem scalarCanonicalisation : Obligations.ScalarCanonicalisation :=
  ⟨scalarNormRule (fun _ _ => rfl) (by decide) (fun _ _ _ => rfl) Params.Q_lt,
    scalarNormRule (fun _ _ => rfl) (by decide) (fun _ _ _ => rfl) Params.Z_lt⟩

/-- Settles O27: both moduli of a valid parameter set are above 1. -/
theorem scalarInverses : Obligations.ScalarInverses :=
  ⟨inverseRule (fun _ _ => rfl) (by decide) (fun _ _ _ => rfl) fun p valid => ⟨Params.one_lt_Q valid, p.Q_lt⟩,
    inverseRule (fun _ _ => rfl) (by decide) (fun _ _ _ => rfl) fun p valid => ⟨Params.one_lt_Z valid, p.Z_lt⟩⟩

/-- Settles O28: R2F writes the power itself; a power of g is a unit and none below Z comes twice. -/
theorem restrictedToField : Obligations.RestrictedToField := by
  constructor
  · exact scalarUnaryRule (fun _ _ => rfl) (by decide) (fun _ _ _ => rfl) fun p e valid _ =>
      ⟨rfl, Nat.lt_trans (Params.emb_lt valid e) p.Q_lt⟩
  · exact fun p valid e he => ⟨Params.emb_ne_zero valid e, fun e' he' => Params.emb_inj valid he he'⟩

/-! ### Membership and the discrete logarithm (41_scalar R190, R191) -/

theorem EffectShape.setX_setGrp (s : State) (r : Reg) (v : Nat) (b : Bool) : EffectShape s ((s.setX r v).setGrp b) :=
  { EffectShape.refl s with }

@[simp] theorem State.setGrp_grp (s : State) (b : Bool) : (s.setGrp b).grp = b := by
  rw [State.grp, State.setGrp_flags, setBit_getLsbD]
  exact if_pos (by decide)

/-- A write of `x[r]` and of GRP changes no other register, no other flag and nothing else. -/
theorem State.setX_setGrp_kept (s : State) (r : Reg) (v : Nat) (b : Bool) :
    Kept { regs := [r], flags := [1] } s ((s.setX r v).setGrp b) :=
  { s.setX_kept r v with
    flags := fun k other => by
      rw [State.setGrp_flags, setBit_getLsbD, if_neg fun same => other (List.mem_singleton.mpr same.1)]
      rfl }

/-- A command whose only test is of the parameters, and which then writes `v` to `x[a]` and `b` to GRP, follows any rule
that those two values meet. -/
theorem follows_of_runCommand_setX_setGrp {i : Instr} {s : State} {a : Reg} {v : Nat} {b : Bool} {P : State → Prop}
    (run : exec i s = runCommand i s [s.paramCheck] (.effect ((s.setX a v).setGrp b)))
    (small : s.params.valid = true → v < 2 ^ 32)
    (result : s.params.valid = true → ∀ t : State, t.val a = v → t.grp = b → P t) :
    Follows i s [(.param, s.params.valid = true)] { regs := [a], flags := [1] } P :=
  follows_cons run Iff.rfl fun valid run =>
    completes_of_runCommand run firstFault_nil (.setX_setGrp s a v b) (s.setX_setGrp_kept a v b)
      (result valid _ (s.val_setX_self a (small valid)) (State.setGrp_grp _ b))

/-- Settles O29: membership is being a power below Z, and a power has one exponent there. -/
theorem membershipAndDiscreteLogarithm : Obligations.MembershipAndDiscreteLogarithm := by
  intro s a b
  have member : s.params.inG (s.val b) = true ↔ ∃ e < s.params.Z, s.params.G ^ e % s.params.Q = s.val b :=
    s.params.inG_iff _
  refine ⟨⟨wordOf_of_row rfl (by decide), ?ingrp⟩, wordOf_of_row rfl (by decide), ?f2r⟩
  case ingrp =>
    refine follows_of_runCommand_setX_setGrp rfl (fun _ => Nat.lt_trans (Bool.toNat_lt _) (by decide)) ?_
    intro _ t value flag
    rw [value, flag, ← member]
    cases s.params.inG (s.val b) <;> decide
  case f2r =>
    refine follows_of_runCommand_setX_setGrp rfl (fun _ => s.params.dlog_lt _) ?_
    intro valid t value flag
    rw [value, flag, ← member]
    constructor
    · intro e he power
      rw [← power]
      exact ⟨Params.dlog_emb valid he, (s.params.inG_iff _).mpr ⟨e, he, rfl⟩⟩
    · intro outside
      have outside := Bool.eq_false_iff.mpr outside
      exact ⟨Params.dlog_of_not_inG outside, outside⟩

end Sys2Proof.Machine
end

section
/-! The vectors a command reads from BUF and the vector it writes there: the tests of regions and of ranges in the terms
of the rules, the entries read, and a command that writes one vector (20_memory R91, R100; 42_vector R210, R226). -/

namespace Sys2Proof.Machine

/-! ### The tests of a vector command (42_vector R210) -/

theorem State.fitsAll_iff (s : State) (rs : List Region) : s.fitsAll rs = true ↔ Fits s rs := by
  simp only [State.fitsAll, State.fits, Fits, List.all_eq_true, Bool.or_eq_true, beq_iff_eq, decide_eq_true_eq]

theorem State.all_readElems_iff (s : State) (test : Nat → Bool) (addr n : Nat) :
    (s.readElems addr n).all test = true ↔ ∀ j < n, test (Memory.elem s.buf addr j) = true := by
  simp only [State.readElems, Memory.elems, List.all_map, List.all_eq_true, List.mem_range, Function.comp_apply]

theorem State.allBelow_readElems_iff (s : State) (m addr n : Nat) :
    allBelow m (s.readElems addr n) = true ↔ ElemsBelow s addr n m := by
  simp only [allBelow, ElemsBelow, s.all_readElems_iff, decide_eq_true_eq]

theorem State.allBelow_readElems_and_iff (s : State) (m q b c n k : Nat) :
    (allBelow m (s.readElems b n) && allBelow q (s.readElems c k)) = true ↔
      ElemsBelow s b n m ∧ ElemsBelow s c k q := by
  rw [Bool.and_eq_true, s.allBelow_readElems_iff, s.allBelow_readElems_iff]

/-! ### The entries of a vector -/

theorem getD_map_range (g : Nat → Nat) {n j : Nat} (hj : j < n) : ((List.range n).map g).getD j 0 = g j := by
  rw [getD_map_of_lt g 0 0 (by simpa using hj), List.getD_eq_getElem _ _ (by simpa using hj), List.getElem_range]

theorem State.readElems_getD (s : State) (addr : Nat) {n j : Nat} (hj : j < n) :
    (s.readElems addr n).getD j 0 = Memory.elem s.buf addr j := getD_map_range _ hj

theorem State.map_readElems (s : State) (g : Nat → Nat) (addr n : Nat) :
    (s.readElems addr n).map g = (List.range n).map fun j => g (Memory.elem s.buf addr j) := List.map_map

theorem State.map_readElems_getD (s : State) (g : Nat → Nat) (addr : Nat) {n j : Nat} (hj : j < n) :
    ((s.readElems addr n).map g).getD j 0 = g (Memory.elem s.buf addr j) := by
  rw [s.map_readElems, getD_map_range _ hj]

theorem zipWith_map_range (f : Nat → Nat → Nat) (g h : Nat → Nat) (n : Nat) :
    List.zipWith f ((List.range n).map g) ((List.range n).map h) = (List.range n).map fun j => f (g j) (h j) := by
  rw [List.zipWith_map, List.zipWith_self]

theorem State.zipWith_readElems (s : State) (g : Nat → Nat → Nat) (b c n : Nat) :
    List.zipWith g (s.readElems b n) (s.readElems c n) =
      (List.range n).map fun j => g (Memory.elem s.buf b j) (Memory.elem s.buf c j) := zipWith_map_range ..

/-! ### Writing a vector (00_scope R15) -/

theorem EffectShape.writeElems (s : State) (addr : Nat) (vs : List Nat) : EffectShape s (s.writeElems addr vs) :=
  { EffectShape.refl s with wf := fun canonical => Memory.write_wf canonical addr (elemBytes vs) }

theorem EffectShape.setGrp {s u : State} (shape : EffectShape s u) (b : Bool) : EffectShape s (u.setGrp b) :=
  { shape with }

/-- A write of n elements changes no byte outside its region of 2n bytes, and nothing else. -/
theorem State.writeElems_kept (s : State) (addr : Nat) {vs : List Nat} {n : Nat} (length : vs.length = n) :
    Kept { regions := [(addr, 2 * n)] } s (s.writeElems addr vs) := by
  have kept := s.writeBytes_kept addr (elemBytes vs)
  rwa [elemBytes_length, length] at kept

/-- A write of GRP besides changes no other flag. -/
theorem Kept.setGrp {rs : List Region} {s u : State} (kept : Kept { regions := rs } s u) (b : Bool) :
    Kept { regions := rs, flags := [1] } s (u.setGrp b) :=
  { kept with
    flags := fun k other => by
      rw [State.setGrp_flags, setBit_getLsbD, if_neg fun same => other (List.mem_singleton.mpr same.1)]
      exact kept.flags k List.not_mem_nil }

/-- Every element of a vector of 16-bit values just written reads back. -/
theorem State.elem_writeElems {s : State} (canonical : Memory.wf s.buf) (addr : Nat) {vs : List Nat}
    (small : ∀ v ∈ vs, v < 65536) {j : Nat} (hj : j < vs.length) :
    Memory.elem (s.writeElems addr vs).buf addr j = vs.getD j 0 := by
  rw [State.writeElems_buf, Memory.elem_write canonical addr vs hj (small _ (List.getElem_mem hj)),
    List.getD_eq_getElem _ _ hj]

/-- A command that tests the parameters and its regions follows any rule that its effect meets. -/
theorem follows_of_runCommand_regions {i : Instr} {s u : State} {rs : List Region} {e : Writes} {P : State → Prop}
    (run : exec i s = runCommand i s [s.paramCheck, s.addrCheck rs] (.effect u)) (shape : EffectShape s u)
    (kept : Kept e s u) (result : s.params.valid = true → P u.complete) :
    Follows i s [(.param, s.params.valid = true), (.addr, Fits s rs)] e P :=
  follows_cons run Iff.rfl fun valid run => follows_cons run (s.fitsAll_iff rs) fun _ run =>
    completes_of_runCommand run firstFault_nil shape kept (result valid)

/-- A command that tests the parameters, its regions and the range of its sources, and then writes a vector of n 16-bit
values, follows any rule that those values meet. -/
theorem follows_of_runCommand_writeElems {i : Instr} {s : State} {rs : List Region} {inRange : Bool} {ranges : Prop}
    {addr n : Nat} {vs : List Nat} {P : State → Prop} (canonical : Memory.wf s.buf)
    (run : exec i s =
      runCommand i s [s.paramCheck, s.addrCheck rs, (.range, inRange)] (.effect (s.writeElems addr vs)))
    (range : inRange = true ↔ ranges) (length : s.params.valid = true → vs.length = n)
    (small : s.params.valid = true → ranges → ∀ v ∈ vs, v < 65536)
    (result : s.params.valid = true → ∀ t : State, (∀ j < n, Memory.elem t.buf addr j = vs.getD j 0) → P t) :
    Follows i s [(.param, s.params.valid = true), (.addr, Fits s rs), (.range, ranges)]
      { regions := [(addr, 2 * n)] } P :=
  follows_cons run Iff.rfl fun valid run => follows_cons run (s.fitsAll_iff rs) fun _ run =>
    follows_cons run range fun below run =>
      completes_of_runCommand run firstFault_nil (.writeElems s addr vs) (s.writeElems_kept addr (length valid))
        (result valid _ fun _ hj =>
          State.elem_writeElems canonical addr (small valid below) (hj.trans_eq (length valid).symm))

/-- The same, for a vector given by its lanes. -/
theorem follows_of_runCommand_writeLanes {i : Instr} {s : State} {rs : List Region} {inRange : Bool} {ranges : Prop}
    {addr n : Nat} {vs : List Nat} {lane : Nat → Nat} (canonical : Memory.wf s.buf)
    (run : exec i s =
      runCommand i s [s.paramCheck, s.addrCheck rs, (.range, inRange)] (.effect (s.writeElems addr vs)))
    (range : inRange = true ↔ ranges) (lanes : s.params.valid = true → vs = (List.range n).map lane)
    (small : s.params.valid = true → ranges → ∀ j < n, lane j < 65536) :
    Follows i s [(.param, s.params.valid = true), (.addr, Fits s rs), (.range, ranges)]
      { regions := [(addr, 2 * n)] } (fun t => ∀ j < n, Memory.elem t.buf addr j = lane j) := by
  refine follows_of_runCommand_writeElems canonical run range (fun valid => ?length) (fun valid below => ?small)
    fun valid _ written _ hj => ?result
  case length => rw [lanes valid, List.length_map, List.length_range]
  case small =>
    rw [lanes valid, List.forall_mem_map]
    exact fun j mem => small valid below j (List.mem_range.mp mem)
  case result => rw [written _ hj, lanes valid, getD_map_range lane hj]

/-! ### The moduli as bounds of an element (10_state R54, R55) -/

theorem Params.Q_lt_elem {p : Params} (valid : p.valid = true) : p.Q < 65536 := by
  obtain ⟨-, -, -, -, -, hQ, -⟩ := Params.valid_inBounds valid
  omega

theorem Params.Z_lt_elem {p : Params} (valid : p.valid = true) : p.Z < 65536 := by
  obtain ⟨-, -, -, -, -, hQ, -, hZ, -⟩ := Params.valid_inBounds valid
  omega

end Sys2Proof.Machine
end

section
/-! The pointwise commands: what each shape of a pointwise command makes of its function, and each command as one use of
its shape (42_vector R210 to R222, R226). Settles O31 to O34. -/

namespace Sys2Proof.Machine

/-! ### The shapes of a pointwise command (42_vector R210) -/

/-- A command on two vectors follows its rule when its function gives a canonical value on canonical operands. -/
theorem vectorBinaryRule {op : Nat} {i : Reg → Reg → Reg → Reg → Instr} {m : Params → Nat} {f : Nat → Nat → Nat → Nat}
    (word : ∀ a b c d, encode (i a b c d) = wordR op a b c d 0 0)
    (row : ∃ r ∈ opcodeRows, r.opcode.toNat = op ∧ r.unused = 0x0000FF#32)
    (run : ∀ s a b c d,
      exec (i a b c d) s = vectorBinary (i a b c d) (m s.params) (List.zipWith (f (m s.params))) a b c d s)
    (modulus : ∀ p, p.valid = true → m p < 65536) (canonical : ∀ q x y, x < q → f q x y < q) :
    VectorBinaryRule op i m f := fun s a b c d wf =>
  ⟨wordOf_of_row (word a b c d) row,
    follows_of_runCommand_writeLanes wf (run s a b c d) (s.allBelow_readElems_and_iff ..)
      (fun _ => s.zipWith_readElems ..)
      fun valid ⟨below, _⟩ j hj => (canonical _ _ _ (below j hj)).trans (modulus _ valid)⟩

/-- A command on one vector follows its rule when its function gives an element on the operands it admits. -/
theorem vectorUnaryRule {op : Nat} {i : Reg → Reg → Reg → Instr} {bound : Params → Nat} {f : Params → Nat → Nat}
    (word : ∀ a b d, encode (i a b d) = wordR op a b 0 d 0 0)
    (row : ∃ r ∈ opcodeRows, r.opcode.toNat = op ∧ r.unused = 0x00F0FF#32)
    (run : ∀ s a b d, exec (i a b d) s = vectorUnary (i a b d) (bound s.params) (f s.params) a b d s)
    (small : ∀ p v, p.valid = true → v < bound p → f p v < 65536) : VectorUnaryRule op i bound f := fun s a b d wf =>
  ⟨wordOf_of_row (word a b d) row,
    follows_of_runCommand_writeLanes wf (run s a b d) (s.allBelow_readElems_iff ..) (fun _ => s.map_readElems ..)
      fun valid below j hj => small _ _ valid (below j hj)⟩

/-! ### Sums, differences, products, canonicalisation and embedding -/

/-- Settles O31: each function keeps canonical operands canonical, and a modulus is below 2^16. -/
theorem pointwiseSumDifferenceProduct : Obligations.PointwiseSumDifferenceProduct :=
  ⟨vectorBinaryRule (fun _ _ _ _ => rfl) (by decide) (fun _ _ _ _ _ => rfl) (fun _ => Params.Q_lt_elem)
      fun _ _ _ => addMod_lt,
    vectorBinaryRule (fun _ _ _ _ => rfl) (by decide) (fun _ _ _ _ _ => rfl) (fun _ => Params.Q_lt_elem)
      fun _ _ _ => subMod_lt,
    vectorBinaryRule (fun _ _ _ _ => rfl) (by decide) (fun _ _ _ _ _ => rfl) (fun _ => Params.Q_lt_elem)
      fun _ _ _ => mulMod_lt,
    vectorBinaryRule (fun _ _ _ _ => rfl) (by decide) (fun _ _ _ _ _ => rfl) (fun _ => Params.Z_lt_elem)
      fun _ _ _ => subMod_lt⟩

/-- One conditional subtraction brings a value below twice the modulus below it. -/
theorem normMod_lt {m v : Nat} (below : v < 2 * m) : normMod m v < m := by
  rw [normMod_eq_mod below]
  exact Nat.mod_lt v (by omega)

/-- Settles O32: the canonical value and the power of g are below a modulus, and a modulus is below 2^16. -/
theorem pointwiseCanonicalisationAndEmbedding : Obligations.PointwiseCanonicalisationAndEmbedding :=
  ⟨vectorUnaryRule (fun _ _ _ => rfl) (by decide) (fun _ _ _ _ => rfl) fun _ _ valid below =>
      (normMod_lt below).trans (Params.Q_lt_elem valid),
    vectorUnaryRule (fun _ _ _ => rfl) (by decide) (fun _ _ _ _ => rfl) fun _ _ valid below =>
      (normMod_lt below).trans (Params.Z_lt_elem valid),
    vectorUnaryRule (fun _ _ _ => rfl) (by decide) (fun _ _ _ _ => rfl) fun _ e valid _ =>
      (Params.emb_lt valid e).trans (Params.Q_lt_elem valid)⟩

/-- What is reduced modulo Q is an element (20_memory R100). -/
theorem Params.mod_Q_lt_elem {p : Params} (valid : p.valid = true) (v : Nat) : v % p.Q < 65536 :=
  (Nat.mod_lt v (Nat.zero_lt_of_lt (Params.one_lt_Q valid))).trans (Params.Q_lt_elem valid)

/-- Settles O33: the scaled combination works lane by lane, and β belongs to the test of ranges. -/
theorem scaledCombination : Obligations.ScaledCombination := fun s _ _ _ _ _ wf =>
  ⟨wordOf_of_row rfl (by decide),
    follows_of_runCommand_writeLanes wf rfl
      (by rw [Bool.and_assoc, Bool.and_eq_true, decide_eq_true_iff, s.allBelow_readElems_and_iff])
      (fun _ => s.zipWith_readElems ..) fun valid _ _ _ => Params.mod_Q_lt_elem valid _⟩

/-! ### Membership and discrete logarithms (42_vector R219, R222) -/

theorem Params.dlog_lt_elem {p : Params} (valid : p.valid = true) (v : Nat) : p.dlog v < 65536 := by
  cases member : p.inG v
  case true => exact (Params.dlog_spec member).2.trans (Params.Z_lt_elem valid)
  case false => rw [Params.dlog_of_not_inG member]; decide

/-- A truth value written to `x[a]` and to GRP is 1 in the one when it is true in the other. -/
theorem State.val_setX_setGrp_toNat (s : State) (a : Reg) (r : Bool) :
    ((s.setX a r.toNat).setGrp r).val a = if ((s.setX a r.toNat).setGrp r).grp then 1 else 0 := by
  rw [State.setGrp_grp]
  cases r <;> exact s.val_setX_self a (by decide)

/-- Settles O34: both commands test every lane for GRP; VF2R writes the logarithm of every lane, VINGRP the conjunction
to `x[A]`. -/
theorem vectorMembershipAndLogarithms : Obligations.VectorMembershipAndLogarithms := by
  intro s a b d wf
  refine ⟨⟨wordOf_of_row rfl (by decide), ?vingrp⟩, wordOf_of_row rfl (by decide), ?vf2r⟩
  case vingrp =>
    refine follows_of_runCommand_regions rfl (.setX_setGrp s a _ _) (s.setX_setGrp_kept a _ _) fun _ => ⟨?grp, ?reg⟩
    case grp => exact (Bool.eq_iff_iff.mp (State.setGrp_grp _ _)).trans (s.all_readElems_iff ..)
    case reg => exact s.val_setX_setGrp_toNat a _
  case vf2r =>
    refine follows_of_runCommand_regions rfl ((EffectShape.writeElems s _ _).setGrp _)
      ((s.writeElems_kept _ (by simp)).setGrp _) fun valid => ⟨?grp, fun j hj => ?lane⟩
    case grp => exact (Bool.eq_iff_iff.mp (State.setGrp_grp _ _)).trans (s.all_readElems_iff ..)
    case lane =>
      have small : ∀ v ∈ (s.readElems (s.val b) (s.val d)).map s.params.dlog, v < 65536 :=
        List.forall_mem_map.mpr fun v _ => Params.dlog_lt_elem valid v
      exact (State.elem_writeElems wf _ small (by simpa using hj)).trans (s.map_readElems_getD _ _ hj)

end Sys2Proof.Machine
end

section
/-! The three matrix commands: the product of a vector with a matrix and its linearity, the two maps made of it, and
SYNQ, SYNR and EXPZ (42_vector R221 to R225). Settles O35 and O36. -/

namespace Sys2Proof.Machine

/-! ### The product of a vector with a matrix (42_vector R221) -/

/-- Entry j of the product of a vector with a row-major matrix of `rows` rows and `cols` columns, both given by their
entries. -/
def matVec (rows cols : Nat) (V v : Nat → Nat) (j : Nat) : Nat := ∑ i ∈ Finset.range rows, v i * V (i * cols + j)

theorem rowMajor_lt {rows cols i j : Nat} (hi : i < rows) (hj : j < cols) : i * cols + j < rows * cols :=
  calc i * cols + j < i * cols + cols := Nat.add_lt_add_left hj _
    _ = (i + 1) * cols := (Nat.succ_mul ..).symm
    _ ≤ rows * cols := Nat.mul_le_mul_right cols hi

/-- The product depends on the entries of the vector and of the matrix only. -/
theorem matVec_congr {rows cols : Nat} {V V' v v' : Nat → Nat} {j : Nat} (hj : j < cols)
    (matrix : ∀ k < rows * cols, V k = V' k) (vector : ∀ i < rows, v i = v' i) :
    matVec rows cols V v j = matVec rows cols V' v' j :=
  Finset.sum_congr rfl fun i mem => by
    have row := Finset.mem_range.mp mem
    rw [vector i row, matrix _ (rowMajor_lt row hj)]

/-- The product modulo m is linear in the vector. -/
theorem natCast_matVec {m rows cols : Nat} {V u v w : Nat → Nat} (c : ZMod m) (j : Nat)
    (combination : ∀ i < rows, (w i : ZMod m) = u i + c * v i) :
    (matVec rows cols V w j : ZMod m) = matVec rows cols V u j + c * matVec rows cols V v j := by
  have product : ∀ i ∈ Finset.range rows, (w i : ZMod m) * V (i * cols + j) =
      u i * V (i * cols + j) + c * (v i * V (i * cols + j)) := fun i mem => by
    rw [combination i (Finset.mem_range.mp mem)]
    ring
  simp only [matVec, Nat.cast_sum, Nat.cast_mul]
  rw [Finset.sum_congr rfl product, Finset.sum_add_distrib, Finset.mul_sum]

theorem getD_zipWith (f : Nat → Nat → Nat) {u v : List Nat} {i : Nat} (hu : i < u.length) (hv : i < v.length) :
    (List.zipWith f u v).getD i 0 = f (u.getD i 0) (v.getD i 0) := by
  simp [List.getD_eq_getElem?_getD, hu, hv]

/-! ### The syndrome (42_vector R223, R224) -/

theorem Params.syn_eq (p : Params) (V v : List Nat) :
    p.syn V v = (List.range (p.N - p.K)).map fun j =>
      (v.getD (p.K + j) 0 + matVec p.K (p.N - p.K) (V.getD · 0) (v.getD · 0) j) % p.Q := rfl

theorem Params.K_le_N {p : Params} (valid : p.valid = true) : p.K ≤ p.N := by
  obtain ⟨-, -, -, -, -, -, -, -, -, -, -, -, -, hK, -⟩ := Params.valid_inBounds valid
  omega

/-- The syndrome of a vector mapped from BUF with a matrix of BUF, by their entries; only what the map gives modulo Q
matters. -/
theorem Params.syn_readElems {s : State} (valid : s.params.valid = true) {e f : Nat → Nat}
    (same : ∀ x, e x ≡ f x [MOD s.params.Q]) (b c : Nat) :
    s.params.syn (s.readElems c (s.params.K * (s.params.N - s.params.K))) ((s.readElems b s.params.N).map e) =
      (List.range (s.params.N - s.params.K)).map fun j =>
        (f (Memory.elem s.buf b (s.params.K + j)) +
          matVec s.params.K (s.params.N - s.params.K) (Memory.elem s.buf c) (fun i => f (Memory.elem s.buf b i)) j) %
            s.params.Q := by
  have vector : ∀ i < s.params.N, ((s.readElems b s.params.N).map e).getD i 0 = e (Memory.elem s.buf b i) :=
    fun i hi => s.map_readElems_getD e b hi
  have bound := Params.K_le_N valid
  rw [Params.syn_eq]
  refine List.map_congr_left fun j mem => ?_
  have hj := List.mem_range.mp mem
  rw [vector _ (by omega), matVec_congr hj (fun k hk => s.readElems_getD c hk) fun i hi => vector i (by omega)]
  exact (same _).add (Nat.ModEq.sum fun i _ => (same _).mul_right _)

/-- `syn(u + β·v) = syn(u) + β·syn(v)`. -/
theorem Params.syn_scaVec {p : Params} (valid : p.valid = true) (V : List Nat) {u v : List Nat} (beta : Nat)
    (hu : u.length = p.N) (hv : v.length = p.N) :
    p.syn V (scaVec p.Q beta u v) = scaVec p.Q beta (p.syn V u) (p.syn V v) := by
  have entry : ∀ i < p.N, ((scaVec p.Q beta u v).getD i 0 : ZMod p.Q) =
      (u.getD i 0 : ZMod p.Q) + beta * (v.getD i 0 : ZMod p.Q) := fun i hi => by
    rw [scaVec, getD_zipWith _ (hi.trans_eq hu.symm) (hi.trans_eq hv.symm), ZMod.natCast_mod, Nat.cast_add,
      Nat.cast_mul]
  have bound := Params.K_le_N valid
  simp only [Params.syn_eq]
  refine .trans (List.map_congr_left fun j mem => ?_) (zipWith_map_range ..).symm
  have hj := List.mem_range.mp mem
  rw [← ZMod.natCast_eq_natCast_iff']
  simp only [Nat.cast_add, Nat.cast_mul, ZMod.natCast_mod]
  rw [natCast_matVec (beta : ZMod p.Q) j fun i hi => entry i (by omega), entry _ (by omega)]
  ring

/-- A syndrome command whose vector is mapped by `e` follows the rule of any `f` that gives the same modulo Q. -/
theorem follows_of_runCommand_syn {i : Instr} {s : State} {rs : List Region} {a b c m : Nat} {e f : Nat → Nat}
    {vs : List Nat} (mapped : vs = (s.readElems b s.params.N).map e)
    (wf : Memory.wf s.buf) (same : ∀ x, e x ≡ f x [MOD s.params.Q])
    (run : exec i s = runCommand i s
      [s.paramCheck, s.addrCheck rs,
        (.range, allBelow m (s.readElems b s.params.N) &&
          allBelow s.params.Q (s.readElems c (s.params.K * (s.params.N - s.params.K))))]
      (.effect (s.writeElems a
        (s.params.syn (s.readElems c (s.params.K * (s.params.N - s.params.K))) vs)))) :
    Follows i s
      [(.param, s.params.valid = true), (.addr, Fits s rs),
        (.range, ElemsBelow s b s.params.N m ∧ ElemsBelow s c (s.params.K * (s.params.N - s.params.K)) s.params.Q)]
      { regions := [(a, 2 * (s.params.N - s.params.K))] }
      (fun t => ∀ j < s.params.N - s.params.K, Memory.elem t.buf a j =
        (f (Memory.elem s.buf b (s.params.K + j)) + ∑ i ∈ Finset.range s.params.K,
          f (Memory.elem s.buf b i) * Memory.elem s.buf c (i * (s.params.N - s.params.K) + j)) % s.params.Q) :=
  follows_of_runCommand_writeLanes wf run (s.allBelow_readElems_and_iff ..)
    (fun valid => mapped ▸ Params.syn_readElems valid same b c) fun valid _ _ _ => Params.mod_Q_lt_elem valid _

/-- Settles O35: SYNQ takes its vector as it is, SYNR embeds it, by powers of g modulo Q; the syndrome is linear as the
product is. -/
theorem syndromes : Obligations.Syndromes := by
  intro s a b c wf p V regions
  refine ⟨⟨wordOf_of_row rfl (by decide), ?synq⟩, ⟨wordOf_of_row rfl (by decide), ?synr⟩, ?linear⟩
  case synq =>
    exact follows_of_runCommand_syn (f := id) (List.map_id _).symm wf (fun _ => rfl) (execSynq.eq_def a b c s)
  case synr =>
    exact follows_of_runCommand_syn (f := (p.G ^ ·)) rfl wf (fun _ => Nat.mod_modEq _ _) (execSynr.eq_def a b c s)
  case linear => exact fun M u v beta valid hu hv => Params.syn_scaVec valid M beta hu hv

/-! ### The expansion (42_vector R225) -/

theorem Params.expz_eq (p : Params) (Wm eta : List Nat) :
    p.expz Wm eta = ((List.range (p.N - p.M)).map fun j =>
      matVec p.M (p.N - p.M) (Wm.getD · 0) (eta.getD · 0) j % p.Z) ++ (List.range p.M).map (eta.getD · 0) := rfl

theorem Params.M_le_N {p : Params} (valid : p.valid = true) (variant : p.variant = true) : p.M ≤ p.N := by
  obtain ⟨-, -, -, -, -, -, -, -, -, -, -, -, -, -, hM, -⟩ := Params.valid_inBounds valid
  have bounds := hM variant
  omega

/-- The first N - M entries of an expansion are the product modulo Z. -/
theorem Params.expz_getD_product (p : Params) (Wm eta : List Nat) {j : Nat} (hj : j < p.N - p.M) :
    (p.expz Wm eta).getD j 0 = matVec p.M (p.N - p.M) (Wm.getD · 0) (eta.getD · 0) j % p.Z := by
  rw [Params.expz_eq, List.getD_append _ _ _ _ (by simpa using hj), getD_map_range _ hj]

/-- The last M entries of an expansion are the vector expanded. -/
theorem Params.expz_getD_copy (p : Params) (Wm eta : List Nat) {i : Nat} (hi : i < p.M) :
    (p.expz Wm eta).getD (p.N - p.M + i) 0 = eta.getD i 0 := by
  rw [Params.expz_eq, List.getD_append_right _ _ _ _ (by simp), List.length_map, List.length_range,
    Nat.add_sub_cancel_left, getD_map_range _ hi]

theorem Params.expz_lt_Z {p : Params} (valid : p.valid = true) (Wm : List Nat) {eta : List Nat}
    (below : ∀ i < p.M, eta.getD i 0 < p.Z) : ∀ v ∈ p.expz Wm eta, v < p.Z := by
  rw [Params.expz_eq, List.forall_mem_append, List.forall_mem_map, List.forall_mem_map]
  exact ⟨fun _ _ => Nat.mod_lt _ (Nat.zero_lt_of_lt (Params.one_lt_Z valid)),
    fun i mem => below i (List.mem_range.mp mem)⟩

theorem natCast_subMod {m a b : Nat} (h : b ≤ a + m) :
    (subMod m a b : ZMod m) = (a : ZMod m) + (-1) * (b : ZMod m) := by
  unfold subMod
  split
  case isTrue le => rw [Nat.cast_sub le]; ring
  case isFalse => rw [Nat.cast_sub h, Nat.cast_add, ZMod.natCast_self]; ring

/-- `EXPZ(u - v) = EXPZ(u) - EXPZ(v)`. -/
theorem Params.expz_subVec {p : Params} (valid : p.valid = true) (Wm : List Nat) {u v : List Nat}
    (hu : u.length = p.M) (hv : v.length = p.M) (below : ∀ i < p.M, v.getD i 0 < p.Z) :
    p.expz Wm (subVec p.Z u v) = subVec p.Z (p.expz Wm u) (p.expz Wm v) := by
  have entry : ∀ i < p.M, (subVec p.Z u v).getD i 0 = subMod p.Z (u.getD i 0) (v.getD i 0) := fun i hi =>
    getD_zipWith _ (hi.trans_eq hu.symm) (hi.trans_eq hv.symm)
  have reduced : ∀ x, x % p.Z < p.Z := fun x => Nat.mod_lt x (Nat.zero_lt_of_lt (Params.one_lt_Z valid))
  have product : ∀ j, matVec p.M (p.N - p.M) (Wm.getD · 0) ((subVec p.Z u v).getD · 0) j % p.Z =
      subMod p.Z (matVec p.M (p.N - p.M) (Wm.getD · 0) (u.getD · 0) j % p.Z)
        (matVec p.M (p.N - p.M) (Wm.getD · 0) (v.getD · 0) j % p.Z) := fun j => by
    rw [← Nat.mod_eq_of_lt (subMod_lt (reduced _)), ← ZMod.natCast_eq_natCast_iff',
      natCast_subMod ((reduced _).le.trans (Nat.le_add_left ..)), ZMod.natCast_mod, ZMod.natCast_mod]
    refine natCast_matVec (-1) j fun i hi => ?_
    rw [entry i hi, natCast_subMod ((below i hi).le.trans (Nat.le_add_left ..))]
  simp only [Params.expz_eq]
  rw [subVec.eq_def _ (_ ++ _), List.zipWith_append (by simp), zipWith_map_range, zipWith_map_range]
  exact congrArg₂ (· ++ ·) (List.map_congr_left fun j _ => product j)
    (List.map_congr_left fun i mem => entry i (List.mem_range.mp mem))

/-- The entries of the expansion of a vector of BUF through a matrix of BUF (42_vector R225). -/
theorem Params.expz_readElems (s : State) (b c : Nat) :
    let p := s.params
    let expanded := p.expz (s.readElems c (p.M * (p.N - p.M))) (s.readElems b p.M)
    (∀ j < p.N - p.M, expanded.getD j 0 =
      matVec p.M (p.N - p.M) (Memory.elem s.buf c) (Memory.elem s.buf b) j % p.Z) ∧
    ∀ i < p.M, expanded.getD (p.N - p.M + i) 0 = Memory.elem s.buf b i := by
  intro p expanded
  constructor
  · intro j hj
    rw [Params.expz_getD_product _ _ _ hj,
      matVec_congr hj (fun k hk => s.readElems_getD c hk) fun i hi => s.readElems_getD b hi]
  · intro i hi
    rw [Params.expz_getD_copy _ _ _ hi, s.readElems_getD b hi]

theorem getD_lt_of_allBelow {m : Nat} {vs : List Nat} (below : allBelow m vs = true) {i : Nat} (hi : i < vs.length) :
    vs.getD i 0 < m := by
  rw [List.getD_eq_getElem _ _ hi]
  exact of_decide_eq_true (List.all_eq_true.mp below _ (List.getElem_mem hi))

/-- Settles O36: EXPZ tests the variant first and then writes the product and the copy, all below Z. -/
theorem expansionThroughWmat : Obligations.ExpansionThroughWmat := by
  intro s a b c wf p
  refine ⟨wordOf_of_row rfl (by decide), ?expz, ?linear⟩
  case linear =>
    exact fun M u v valid hu hv _ below =>
      Params.expz_subVec valid M hu hv fun i hi => getD_lt_of_allBelow below (hi.trans_eq hv.symm)
  case expz =>
    refine follows_cons (execExpz.eq_def a b c s) Iff.rfl fun variant run =>
      follows_of_runCommand_writeElems wf run (s.allBelow_readElems_and_iff ..)
        (fun valid => expz_length valid variant _ _) (fun valid ⟨below, _⟩ v mem => ?small)
        fun valid t written => ?result
    case small =>
      refine (Params.expz_lt_Z valid _ (fun i hi => ?_) v mem).trans (Params.Z_lt_elem valid)
      exact (s.readElems_getD _ hi).trans_lt (below i hi)
    case result =>
      obtain ⟨product, copy⟩ := Params.expz_readElems s (s.val b) (s.val c)
      have bound : p.M ≤ p.N := Params.M_le_N valid variant
      exact ⟨fun j hj => (written j (by omega)).trans (product j hj),
        fun i hi => (written _ (by omega)).trans (copy i hi)⟩

end Sys2Proof.Machine
end

section
/-! The rejection sampler: the bounds of its shift register, the bounded draw of the model against the draw of the rule in
both directions, and a sampling call (43_xof R260, R261, R267; log 5). Settles O42 and O41. -/

namespace Sys2Proof.Machine

/-! ### The shift register (43_xof R260) -/

theorem Sampler.refill_of_le (S : Nat → Byte) {d : Sampler} (low : d.nb ≤ 32) :
    d.refill S = ⟨d.pos + 4, d.sr ||| (chunkAt S d.pos <<< d.nb), d.nb + 32⟩ := if_pos low

theorem Sampler.refill_of_lt (S : Nat → Byte) {d : Sampler} (high : 32 < d.nb) : d.refill S = d :=
  if_neg (Nat.not_le.mpr high)

/-- Four bytes make a number of 32 bits. -/
theorem sum_four_bytes_lt (S : Nat → Byte) (p : Nat) :
    ∑ k ∈ Finset.range 4, 2 ^ (8 * k) * (S (p + k)).toNat < 2 ^ 32 := by
  have := (S p).isLt
  have := (S (p + 1)).isLt
  have := (S (p + 2)).isLt
  have := (S (p + 3)).isLt
  simp only [Finset.sum_range_succ, Finset.sum_range_zero]
  norm_num
  omega

/-- A chunk is its four bytes, the first least significant. -/
theorem chunkAt_toNat (S : Nat → Byte) (p : Nat) :
    (chunkAt S p).toNat = ∑ k ∈ Finset.range 4, 2 ^ (8 * k) * (S (p + k)).toNat := by
  have fits := (sum_four_bytes_lt S p).trans (by decide : 2 ^ 32 < 2 ^ 64)
  rw [chunkAt, BitVec.toNat_ofNat, ← Nat.mod_eq_of_lt fits]
  simp [Finset.sum_range_succ]

theorem chunkAt_lt (S : Nat → Byte) (p : Nat) : (chunkAt S p).toNat < 2 ^ 32 :=
  (chunkAt_toNat S p).trans_lt (sum_four_bytes_lt S p)

/-- A refill adds the chunk above the valid bits: the two share no bit, and 64 bits hold both. -/
theorem Sampler.refill_sr_toNat (S : Nat → Byte) {d : Sampler} (low : d.nb ≤ 32) (valid : d.sr.toNat < 2 ^ d.nb) :
    (d.refill S).sr.toNat = d.sr.toNat + 2 ^ d.nb * (chunkAt S d.pos).toNat := by
  have fits : (chunkAt S d.pos).toNat * 2 ^ d.nb < 2 ^ 64 :=
    calc (chunkAt S d.pos).toNat * 2 ^ d.nb < 2 ^ 32 * 2 ^ d.nb :=
          Nat.mul_lt_mul_of_pos_right (chunkAt_lt S _) (Nat.two_pow_pos _)
      _ ≤ 2 ^ 32 * 2 ^ 32 := Nat.mul_le_mul_left _ (Nat.pow_le_pow_right (by decide) low)
      _ = 2 ^ 64 := by norm_num
  rw [Sampler.refill_of_le S low, BitVec.toNat_or, BitVec.toNat_shiftLeft, Nat.shiftLeft_eq, Nat.mod_eq_of_lt fits,
    Nat.lor_comm, Nat.mul_comm, ← Nat.two_pow_add_eq_or_of_lt valid, Nat.add_comm]

/-- After a refill the register holds no bit at or above NB. -/
theorem Sampler.refill_sr_lt (S : Nat → Byte) {d : Sampler} (valid : d.sr.toNat < 2 ^ d.nb) :
    (d.refill S).sr.toNat < 2 ^ (d.refill S).nb := by
  rcases Nat.lt_or_ge 32 d.nb with high | low
  · rwa [Sampler.refill_of_lt S high]
  · have nb : (d.refill S).nb = d.nb + 32 := by rw [Sampler.refill_of_le S low]
    rw [Sampler.refill_sr_toNat S low valid, nb]
    calc d.sr.toNat + 2 ^ d.nb * (chunkAt S d.pos).toNat
        < 2 ^ d.nb + 2 ^ d.nb * (chunkAt S d.pos).toNat := Nat.add_lt_add_right valid _
      _ = 2 ^ d.nb * ((chunkAt S d.pos).toNat + 1) := by ring
      _ ≤ 2 ^ d.nb * 2 ^ 32 := Nat.mul_le_mul_left _ (chunkAt_lt S _)
      _ = 2 ^ (d.nb + 32) := (Nat.pow_add ..).symm

theorem Sampler.refill_nb (S : Nat → Byte) {d : Sampler} (bound : d.nb ≤ 64) :
    32 ≤ (d.refill S).nb ∧ (d.refill S).nb ≤ 64 := by
  rcases Nat.lt_or_ge 32 d.nb with high | low
  · rw [Sampler.refill_of_lt S high]
    omega
  · rw [Sampler.refill_of_le S low]
    dsimp only
    omega

theorem Sampler.drop_sr_toNat (d : Sampler) (b : Nat) : (d.drop b).sr.toNat = d.sr.toNat / 2 ^ b := by
  rw [Sampler.drop, BitVec.toNat_ushiftRight, Nat.shiftRight_eq_div_pow]

/-- Dropping valid bits leaves no bit at or above NB. -/
theorem Sampler.drop_sr_lt {d : Sampler} {b : Nat} (enough : b ≤ d.nb) (valid : d.sr.toNat < 2 ^ d.nb) :
    (d.drop b).sr.toNat < 2 ^ (d.drop b).nb := by
  rw [Sampler.drop_sr_toNat]
  refine Nat.div_lt_of_lt_mul ?_
  rwa [Sampler.drop, ← Nat.pow_add, Nat.add_sub_cancel' enough]

/-- Settles O42: a refill puts at most 32 bits above at most 32, and leaves at least the 16 that a draw may drop. -/
theorem shiftRegisterNeverOverflows : Obligations.ShiftRegisterNeverOverflows := by
  intro S d bound valid
  obtain ⟨least, most⟩ := Sampler.refill_nb S bound
  have kept := Sampler.refill_sr_lt S valid
  refine ⟨least, most, kept, fun low => ⟨?pos, ?sr⟩, fun b hb =>
    ⟨Sampler.drop_sr_lt (hb.trans (by omega)) kept, Sampler.drop_sr_toNat _ b⟩⟩
  case pos => rw [Sampler.refill_of_le S low]
  case sr => rw [Sampler.refill_sr_toNat S low valid, chunkAt_toNat]

/-! ### A bounded draw against the draw of the rule (43_xof R260, log 5) -/

theorem draw_succ_accept {S : Nat → Byte} {m : Nat} {d : Sampler} (tries : Nat)
    (taken : (d.refill S).window (bits m) < m) :
    draw S m (tries + 1) d = some ((d.refill S).window (bits m), (d.refill S).drop (bits m)) := if_pos taken

theorem draw_succ_reject {S : Nat → Byte} {m : Nat} {d : Sampler} (tries : Nat)
    (dropped : ¬(d.refill S).window (bits m) < m) :
    draw S m (tries + 1) d = draw S m tries ((d.refill S).drop 1) := if_neg dropped

/-- A draw that ends gives the same with more windows. -/
theorem draw_mono {S : Nat → Byte} {m : Nat} {r : Nat × Sampler} {tries more : Nat} (le : tries ≤ more) {d : Sampler}
    (ends : draw S m tries d = some r) : draw S m more d = some r := by
  induction tries generalizing more d with
  | zero => cases ends
  | succ tries ih =>
    obtain ⟨more, rfl⟩ := Nat.exists_eq_add_of_le' le
    by_cases taken : (d.refill S).window (bits m) < m
    · exact (draw_succ_accept _ taken).trans ((draw_succ_accept tries taken).symm.trans ends)
    · rw [← Nat.add_assoc, draw_succ_reject _ taken]
      exact ih (by omega) ((draw_succ_reject tries taken).symm.trans ends)

/-- A draw of the rule ends within some number of windows: one more than its rejections. -/
theorem DrawsTo.exists_draw {S : Nat → Byte} {m v : Nat} {d e : Sampler} (h : DrawsTo S m d v e) :
    ∃ tries, draw S m tries d = some (v, e) := by
  induction h with
  | accept d taken => exact ⟨1, draw_succ_accept 0 taken⟩
  | reject d v e dropped _ ih =>
    obtain ⟨tries, ends⟩ := ih
    exact ⟨tries + 1, (draw_succ_reject tries dropped).trans ends⟩

theorem drawMany_cons_of_some {S : Nat → Byte} {tries m v : Nat} {ms vs : List Nat} {d e f : Sampler}
    (head : draw S m tries d = some (v, e)) (tail : drawMany S tries ms e = some (vs, f)) :
    drawMany S tries (m :: ms) d = some (v :: vs, f) := by
  simp only [drawMany, head, tail]

/-- Draws that all end: the first ends, and the rest end from where it stopped. -/
theorem drawMany_cons_eq_some {S : Nat → Byte} {tries m : Nat} {ms : List Nat} {d : Sampler} {r : List Nat × Sampler}
    (ends : drawMany S tries (m :: ms) d = some r) :
    ∃ v e vs f, draw S m tries d = some (v, e) ∧ drawMany S tries ms e = some (vs, f) ∧ r = (v :: vs, f) := by
  simp only [drawMany] at ends
  split at ends
  · cases ends
  · next v e head =>
    split at ends
    · cases ends
    · next vs f tail => exact ⟨v, e, vs, f, head, tail, (Option.some.inj ends).symm⟩

theorem drawMany_mono {S : Nat → Byte} {tries more : Nat} (le : tries ≤ more) {ms : List Nat} {d : Sampler}
    {r : List Nat × Sampler} (ends : drawMany S tries ms d = some r) : drawMany S more ms d = some r := by
  induction ms generalizing d r with
  | nil => exact ends
  | cons m ms ih =>
    obtain ⟨v, e, vs, f, head, tail, rfl⟩ := drawMany_cons_eq_some ends
    exact drawMany_cons_of_some (draw_mono le head) (ih tail)

/-- Draws of the rule in turn end together within the largest number of windows one of them needs. -/
theorem DrawsAll.exists_drawMany {S : Nat → Byte} {ms vs : List Nat} {d f : Sampler} (h : DrawsAll S ms d vs f) :
    ∃ tries, drawMany S tries ms d = some (vs, f) := by
  induction h with
  | nil d => exact ⟨0, rfl⟩
  | cons _ _ _ _ _ _ _ head _ ih =>
    obtain ⟨first, headEnds⟩ := head.exists_draw
    obtain ⟨others, tailEnds⟩ := ih
    exact ⟨max first others, drawMany_cons_of_some (draw_mono (le_max_left ..) headEnds)
      (drawMany_mono (le_max_right ..) tailEnds)⟩

/-- The number of windows from which on draws that all end do end; with fewer they have not ended. -/
theorem DrawsAll.exists_least {S : Nat → Byte} {ms vs : List Nat} {d f : Sampler} (h : DrawsAll S ms d vs f) :
    ∃ least, ∀ k, (least ≤ k → drawMany S k ms d = some (vs, f)) ∧ (k < least → drawMany S k ms d = none) := by
  classical
  have ends := h.exists_drawMany
  refine ⟨Nat.find ends, fun k => ⟨fun le => drawMany_mono le (Nat.find_spec ends), fun lt => ?_⟩⟩
  cases early : drawMany S k ms d with
  | none => rfl
  | some r =>
    have same : some r = some (vs, f) := (drawMany_mono lt.le early).symm.trans (Nat.find_spec ends)
    exact absurd (early.trans same) (Nat.find_min ends lt)

/-! ### Where the draws leave the stream (43_xof R260, R261) -/

theorem Sampler.exists_refill_pos (S : Nat → Byte) (d : Sampler) : ∃ k, (d.refill S).pos = d.pos + 4 * k := by
  rcases Nat.lt_or_ge 32 d.nb with high | low
  · exact ⟨0, by rw [Sampler.refill_of_lt S high]; rfl⟩
  · exact ⟨1, by rw [Sampler.refill_of_le S low]⟩

/-- A draw fetches whole chunks. -/
theorem DrawsTo.exists_pos {S : Nat → Byte} {m v : Nat} {d e : Sampler} (h : DrawsTo S m d v e) :
    ∃ k, e.pos = d.pos + 4 * k := by
  induction h with
  | accept d _ => exact d.exists_refill_pos S
  | reject d _ _ _ _ ih =>
    obtain ⟨j, refilled⟩ := d.exists_refill_pos S
    obtain ⟨k, rest⟩ := ih
    refine ⟨j + k, rest.trans ?_⟩
    rw [Sampler.drop, refilled]
    ring

theorem DrawsAll.exists_pos {S : Nat → Byte} {ms vs : List Nat} {d f : Sampler} (h : DrawsAll S ms d vs f) :
    ∃ k, f.pos = d.pos + 4 * k := by
  induction h with
  | nil => exact ⟨0, rfl⟩
  | cons _ _ _ _ _ _ _ head _ ih =>
    obtain ⟨j, first⟩ := head.exists_pos
    obtain ⟨k, rest⟩ := ih
    exact ⟨j + k, by rw [rest, first]; ring⟩

theorem DrawsAll.replicate_length {S : Nat → Byte} {n m : Nat} {vs : List Nat} {d f : Sampler}
    (h : DrawsAll S (List.replicate n m) d vs f) : vs.length = n :=
  h.forall₂_lt.length_eq.trans List.length_replicate

theorem DrawsAll.replicate_lt {S : Nat → Byte} {n m : Nat} {vs : List Nat} {d f : Sampler}
    (h : DrawsAll S (List.replicate n m) d vs f) : ∀ v ∈ vs, v < m := by
  intro v mem
  obtain ⟨i, hi, rfl⟩ := List.getElem_of_mem mem
  have below := h.forall₂_lt.get hi (h.forall₂_lt.length_eq ▸ hi)
  simpa using below

/-! ### A sampling call (43_xof R261) -/

theorem sample_of_some {S : Nat → Byte} {tries m n p : Nat} {rs : List Nat} {f : Sampler} (off : Nat)
    (ends : drawMany S tries (List.replicate n m) (Sampler.fresh p) = some (rs, f)) :
    sample S tries m n off p = some (rs.map (· + off), f.pos) := by
  simp only [sample, ends]

theorem sample_of_none {S : Nat → Byte} {tries m n p : Nat} (off : Nat)
    (stuck : drawMany S tries (List.replicate n m) (Sampler.fresh p) = none) : sample S tries m n off p = none := by
  simp only [sample, stuck]

theorem sample_eq_some_iff {S : Nat → Byte} {tries m n off p q : Nat} {vs : List Nat} :
    sample S tries m n off p = some (vs, q) ↔ ∃ rs f,
      drawMany S tries (List.replicate n m) (Sampler.fresh p) = some (rs, f) ∧ vs = rs.map (· + off) ∧ q = f.pos := by
  constructor
  · intro h
    cases draws : drawMany S tries (List.replicate n m) (Sampler.fresh p) with
    | none => cases (sample_of_none off draws).symm.trans h
    | some r =>
      cases (sample_of_some off draws).symm.trans h
      exact ⟨_, _, rfl, rfl, rfl⟩
  · rintro ⟨rs, f, ends, rfl, rfl⟩
    exact sample_of_some off ends

/-- Settles O41: a call that ends is n draws of the rule, and n draws of the rule end within some number of windows. -/
theorem sampledValuesAreInRange : Obligations.SampledValuesAreInRange := by
  intro S m n off p
  refine ⟨fun tries q vs ended => ?_, fun vs q => ⟨?_, ?_⟩⟩
  · obtain ⟨rs, f, ends, rfl, rfl⟩ := sample_eq_some_iff.mp ended
    have draws := drawMany_drawsAll ends
    refine ⟨sample_length ended, List.forall_mem_map.mpr fun r mem => ?_, draws.exists_pos, fun more le =>
      sample_of_some off (drawMany_mono le ends)⟩
    exact ⟨Nat.le_add_left .., Nat.add_lt_add_right (draws.replicate_lt r mem) off⟩
  · rintro ⟨tries, ended⟩
    obtain ⟨rs, f, ends, values, pos⟩ := sample_eq_some_iff.mp ended
    exact ⟨rs, f, drawMany_drawsAll ends, values, pos⟩
  · rintro ⟨rs, f, draws, values, pos⟩
    obtain ⟨tries, ends⟩ := draws.exists_drawMany
    exact ⟨tries, sample_eq_some_iff.mpr ⟨rs, f, ends, values, pos⟩⟩

end Sys2Proof.Machine
end

section
/-! The XOF session and HASH: the test of the phase, a command that writes the context, the four session commands, XSQZ,
HASH, and HASH against the session (43_xof R252 to R259). Settles O37, O38 and O39. -/

namespace Sys2Proof.Machine

/-! ### The tests and the effect of a command on the context (43_xof R258, R259) -/

theorem State.phaseCheck_iff (s : State) (ph : Phase) : (s.xph == ph) = true ↔ s.xph = ph := beq_iff_eq

theorem State.phaseCheck_fails {s : State} {ph : Phase} (other : s.xph ≠ ph) : (s.xph == ph) = false :=
  beq_eq_false_iff_ne.mpr other

theorem State.fitsAll_fails {s : State} {rs : List Region} (outside : ¬Fits s rs) : s.fitsAll rs = false :=
  Bool.eq_false_iff.mpr (mt (s.fitsAll_iff rs).mp outside)

/-- A command that tests the parameters and then the phase follows its rule when the rest of its run does. -/
theorem follows_phase {i : Instr} {s : State} {ph : Phase} {checks : List Check} {r : Result}
    {tests : List (FaultCode × Prop)} {e : Writes} {P : State → Prop}
    (run : exec i s = runCommand i s (s.paramCheck :: s.phaseCheck ph :: checks) r)
    (rest : s.xph = ph → exec i s = runCommand i s checks r → Follows i s tests e P) :
    Follows i s ((.param, s.params.valid = true) :: (.xofseq, s.xph = ph) :: tests) e P :=
  follows_cons run Iff.rfl fun _ run => follows_cons run (s.phaseCheck_iff ph) rest

theorem EffectShape.writeBytes (s : State) (addr : Nat) (bs : Bytes) : EffectShape s (s.writeBytes addr bs) :=
  { EffectShape.refl s with wf := fun canonical => Memory.write_wf canonical addr bs }

/-- A write of the context keeps the shape of an effect. -/
theorem EffectShape.context {s u : State} (shape : EffectShape s u) (ph : Phase) (input : Bytes) (pos : Nat) :
    EffectShape s { u with xph := ph, xin := input, xpos := pos } := { shape with }

/-- A write of the context changes nothing else. -/
theorem Kept.context {e : Writes} {s u : State} (kept : Kept e s u) (ph : Phase) (input : Bytes) (pos : Nat) :
    Kept { e with xof := true } s { u with xph := ph, xin := input, xpos := pos } := { kept with xof := nofun }

/-- A command that passes its tests and writes the context and nothing else completes with that context. -/
theorem completes_of_runCommand_context {i : Instr} {s : State} {checks : List Check} {ph : Phase} {input : Bytes}
    {pos : Nat} {P : State → Prop}
    (run : exec i s = runCommand i s checks (.effect { s with xph := ph, xin := input, xpos := pos }))
    (passed : firstFault checks = none)
    (result : ∀ t : State, t.xph = ph → t.xin = input → t.xpos = pos → P t) : Completes i s { xof := true } P :=
  completes_of_runCommand run passed ((EffectShape.refl s).context ..) ((Kept.refl s).context ..)
    (result _ rfl rfl rfl)

/-- A command that passes its tests and writes a string to BUF, and the context, completes with both. -/
theorem completes_of_runCommand_writeBytes_context {i : Instr} {s : State} {checks : List Check} {addr n : Nat}
    {bs : Bytes} {ph : Phase} {input : Bytes} {pos : Nat} {P : State → Prop} (canonical : Memory.wf s.buf)
    (length : bs.length = n)
    (run : exec i s =
      runCommand i s checks (.effect { s.writeBytes addr bs with xph := ph, xin := input, xpos := pos }))
    (passed : firstFault checks = none)
    (result : ∀ t : State, Holds t addr bs → t.xph = ph → t.xin = input → t.xpos = pos → P t) :
    Completes i s { regions := [(addr, n)], xof := true } P := by
  subst length
  exact completes_of_runCommand run passed
    ((EffectShape.writeBytes s addr bs).context ..)
    ((s.writeBytes_kept addr bs).context ..)
    (result _ (fun _ hj => State.byteAt_writeBytes_inside canonical addr bs hj) rfl rfl rfl)

/-! ### The session commands (43_xof R252 to R255) -/

/-- The bytes read from BUF are those it holds. -/
theorem State.holds_readBytes (s : State) (addr n : Nat) : Holds s addr (s.readBytes addr n) := fun j hj => by
  simp [State.readBytes, Memory.read, State.byteAt]

/-- `LE16` of an immediate: its low byte, then its high one (43_xof R254). -/
theorem le16_toNat (imm : Imm16) : le16 imm.toNat = [imm.extractLsb' 0 8, imm.extractLsb' 8 8] := by
  have low : BitVec.ofNat 8 imm.toNat = imm.extractLsb' 0 8 := by
    apply BitVec.eq_of_toNat_eq
    simp
  have high : BitVec.ofNat 8 (imm.toNat / 256) = imm.extractLsb' 8 8 := by
    apply BitVec.eq_of_toNat_eq
    simp [Nat.shiftRight_eq_div_pow]
  rw [le16, low, high]

/-- Settles O37: each command passes its tests in order and then writes the context only. -/
theorem xofSessionCommands : Obligations.XofSessionCommands := by
  intro s b c imm
  refine ⟨⟨wordOf_of_row rfl (by decide), ?xinit⟩, ⟨wordOf_of_row rfl (by decide), ?xabs⟩,
    ⟨wordOf_of_row rfl (by decide), ?xabsi⟩, wordOf_of_row rfl (by decide), ?xfin⟩
  case xinit =>
    exact follows_cons (execXinit.eq_def s) Iff.rfl fun _ run =>
      completes_of_runCommand_context run firstFault_nil fun _ phase input pos => ⟨phase, input, pos⟩
  case xabs =>
    refine follows_phase (execXabs.eq_def b c s) fun absorb run => follows_cons run (s.fitsAll_iff _) fun _ run =>
      completes_of_runCommand_context run firstFault_nil fun t phase input pos => ⟨phase.trans absorb, pos, ?_⟩
    exact ⟨_, input, s.readBytes_length .., s.holds_readBytes _ _⟩
  case xabsi =>
    refine follows_phase (execXabsi.eq_def imm s) fun absorb run =>
      completes_of_runCommand_context run firstFault_nil fun t phase input pos => ⟨phase.trans absorb, pos, ?_⟩
    rw [input, le16_toNat]
  case xfin =>
    exact follows_phase (execXfin.eq_def s) fun _ run =>
      completes_of_runCommand_context run firstFault_nil fun _ phase input pos => ⟨phase, pos, input⟩

/-! ### XSQZ and HASH (43_xof R256 to R258) -/

/-- A state that holds stream bytes holds at place j the byte of the stream there. -/
theorem Holds.streamBytes {t : State} {addr p n : Nat} {S : Nat → Byte} (holds : Holds t addr (streamBytes S p n))
    {j : Nat} (hj : j < n) : t.byteAt (addr + j) = S (p + j) :=
  (holds j (by simpa using hj)).trans (by simp [Machine.streamBytes])

/-- Settles O38: each command writes stream bytes to its region, XSQZ those from XPOS on, HASH the first of its input's
stream. -/
theorem squeezeAndHash : Obligations.SqueezeAndHash := by
  intro s a b c wf
  refine ⟨⟨wordOf_of_row rfl (by decide), ?xsqz⟩, wordOf_of_row rfl (by decide), ?hash⟩
  case xsqz =>
    exact follows_phase (execXsqz.eq_def a b s) fun squeeze run => follows_cons run (s.fitsAll_iff _) fun _ run =>
      completes_of_runCommand_writeBytes_context wf (streamBytes_length ..) run firstFault_nil
        fun _ holds phase input pos => ⟨fun _ hj => holds.streamBytes hj, pos, phase.trans squeeze, input⟩
  case hash =>
    refine follows_cons (execHash.eq_def a b c s) Iff.rfl fun _ run => follows_cons run (s.fitsAll_iff _) fun _ run =>
      completes_of_runCommand_writeBytes_context wf (hashOf_length ..) run firstFault_nil
        fun _ holds phase input pos => ⟨⟨phase, input, pos⟩, fun j hj => ?_⟩
    have streamed := holds.streamBytes hj
    rwa [Nat.zero_add] at streamed

/-! ### HASH as a session (43_xof R257) -/

section Passed

variable {s : State} (valid : s.params.valid = true)
include valid

theorem exec_xinit_of_valid : exec .xinit s = .next s.xofOpen.complete :=
  runCommand_effect _ _ _ (firstFault_cons_true _ _ valid)

theorem exec_xabs_of_fits {b c : Reg} (absorb : s.xph = .absorb) (fits : Fits s [(s.val b, s.val c)]) :
    exec (.xabs b c) s = .next (s.xofAbsorb (s.readBytes (s.val b) (s.val c))).complete :=
  runCommand_effect _ _ _ ((firstFault_cons_true _ _ valid).trans
    ((firstFault_cons_true _ _ ((s.phaseCheck_iff _).mpr absorb)).trans
      (firstFault_cons_true _ _ ((s.fitsAll_iff _).mpr fits))))

theorem exec_xfin_of_absorb (absorb : s.xph = .absorb) : exec .xfin s = .next s.xofFinish.complete :=
  runCommand_effect _ _ _ ((firstFault_cons_true _ _ valid).trans
    (firstFault_cons_true _ _ ((s.phaseCheck_iff _).mpr absorb)))

theorem exec_xsqz_of_fits {a b : Reg} (squeeze : s.xph = .squeeze) (fits : Fits s [(s.val a, s.val b)]) :
    exec (.xsqz a b) s = .next ((s.writeBytes (s.val a) (streamBytes (s.xof s.xin) s.xpos (s.val b))).setXpos
      (s.xpos + s.val b)).complete :=
  runCommand_effect _ _ _ ((firstFault_cons_true _ _ valid).trans
    ((firstFault_cons_true _ _ ((s.phaseCheck_iff _).mpr squeeze)).trans
      (firstFault_cons_true _ _ ((s.fitsAll_iff _).mpr fits))))

theorem exec_hash_of_fits {a b c : Reg} (fits : Fits s [(s.val a, s.params.digestBytes), (s.val b, s.val c)]) :
    exec (.hash a b c) s = .next ((s.writeBytes (s.val a)
      (hashOf s.xof s.params (s.readBytes (s.val b) (s.val c)))).xofClear).complete :=
  runCommand_effect _ _ _ ((firstFault_cons_true _ _ valid).trans
    (firstFault_cons_true _ _ ((s.fitsAll_iff _).mpr fits)))

end Passed

/-- Setting a bit again changes nothing. -/
theorem setBit_setBit_self (w : Word) (k : Nat) (b : Bool) : setBit (setBit w k b) k b = setBit w k b := by
  refine BitVec.eq_of_getLsbD_eq fun j _ => ?_
  simp only [setBit_getLsbD]
  split <;> rfl

/-- Settles O39: the session absorbs what HASH reads and extracts from position 0; DONE is set once or four times. -/
theorem hashEqualsTheFourCommandSession : Obligations.HashEqualsTheFourCommandSession := by
  intro s a b c d valid fits size
  obtain ⟨digest, input⟩ := List.forall_mem_cons.mp fits
  let u := s.xofOpen.complete
  let v := (u.xofAbsorb (s.readBytes (s.val b) (s.val c))).complete
  let w := v.xofFinish.complete
  have squeezed : Fits w [(w.val a, w.val d)] := by
    refine List.forall_mem_singleton.mpr ?_
    rw [show w.val d = s.params.digestBytes from size]
    exact digest
  refine ⟨_, u, v, w, _, exec_hash_of_fits valid fits, exec_xinit_of_valid valid, exec_xabs_of_fits (s := u) valid rfl input,
    exec_xfin_of_absorb (s := v) valid rfl, exec_xsqz_of_fits (s := w) valid rfl squeezed, ?buf, rfl, ?status, ⟨rfl, rfl, rfl⟩, rfl,
    (Nat.zero_add _).trans size⟩
  case buf =>
    change Memory.write s.buf (s.val a) (streamBytes _ 0 s.params.digestBytes) =
      Memory.write s.buf (s.val a) (streamBytes _ 0 (s.val d))
    rw [size]
    rfl
  case status =>
    change setBit s.status 1 true = setBit (setBit (setBit (setBit s.status 1 true) 1 true) 1 true) 1 true
    simp only [setBit_setBit_self]

end Sys2Proof.Machine
end

section
/-! The sampling commands and FWEXP: what a sampling command does by what its sampling call gives, the rule of the three
commands, and the fixed-weight expansion (43_xof R261 to R268; log 5). Settles O40 and O43. -/

namespace Sys2Proof.Machine

/-! ### A sampling command by its sampling call (43_xof R262, R267) -/

/-- The tests of a sampling command (43_xof R262). -/
def State.sampleChecks (s : State) (a d : Reg) : List Check :=
  [s.paramCheck, s.phaseCheck .squeeze, s.addrCheck [(s.val a, 2 * s.val d)]]

theorem State.sampleChecks_pass {s : State} {a d : Reg} (valid : s.params.valid = true) (squeeze : s.xph = .squeeze)
    (fits : Fits s [(s.val a, 2 * s.val d)]) : firstFault (s.sampleChecks a d) = none :=
  (firstFault_cons_true _ _ valid).trans ((firstFault_cons_true _ _ ((s.phaseCheck_iff _).mpr squeeze)).trans
    (firstFault_cons_true _ _ ((s.fitsAll_iff _).mpr fits)))

/-- A sampling command whose call gives values writes them and moves XPOS. -/
theorem sampleCommand_of_some (i : Instr) {m off : Nat} {a d : Reg} {s : State} {vs : List Nat} {q : Nat}
    (ends : sample (s.xof s.xin) s.attempts m (s.val d) off s.xpos = some (vs, q)) :
    sampleCommand i m off a d s =
      runCommand i s (s.sampleChecks a d) (.effect ((s.writeElems (s.val a) vs).setXpos q)) := by
  simp only [sampleCommand, ends]
  rfl

/-- A sampling command whose call has not ended is pending. -/
theorem sampleCommand_of_none (i : Instr) {m off : Nat} {a d : Reg} {s : State}
    (stuck : sample (s.xof s.xin) s.attempts m (s.val d) off s.xpos = none) :
    sampleCommand i m off a d s = runCommand i s (s.sampleChecks a d) .pending := by
  simp only [sampleCommand, stuck]
  rfl

/-- A sampling command that fails a test faults, whatever its call gives. -/
theorem sampleCommand_fault {i : Instr} {m off : Nat} {a d : Reg} {s : State} {c : FaultCode}
    (fails : firstFault (s.sampleChecks a d) = some c) :
    sampleCommand i m off a d s = .next (s.takeFault c (encode i)) := by
  unfold sampleCommand
  exact runCommand_fault i s _ fails

/-- A command past its tests that has not ended stays busy. -/
theorem runCommand_pending (i : Instr) (s : State) {checks : List Check} (passed : firstFault checks = none) :
    runCommand i s checks .pending = .next (s.stayBusy (encode i)) := by
  simp only [runCommand, passed]

/-- A sampling command past its tests whose call gives n elements completes with them and the stream position. -/
theorem completes_of_sample {i : Instr} {m off q : Nat} {a d : Reg} {s : State} {vs : List Nat}
    (run : exec i s = sampleCommand i m off a d s) (canonical : Memory.wf s.buf)
    (passed : firstFault (s.sampleChecks a d) = none)
    (ends : sample (s.xof s.xin) s.attempts m (s.val d) off s.xpos = some (vs, q)) (small : ∀ v ∈ vs, v < 65536) :
    Completes i s { regions := [(s.val a, 2 * s.val d)], xof := true } (fun t =>
      (∀ j < s.val d, Memory.elem t.buf (s.val a) j = vs.getD j 0) ∧ t.xpos = q ∧ t.xph = s.xph ∧ t.xin = s.xin) :=
  completes_of_runCommand (run.trans (sampleCommand_of_some i ends)) passed ((EffectShape.writeElems s _ vs).context ..)
    ((s.writeElems_kept _ (sample_length ends)).context ..)
    ⟨fun _ hj => State.elem_writeElems canonical _ small (hj.trans_eq (sample_length ends).symm), rfl, rfl, rfl⟩

/-! ### The rule of a sampling command (43_xof R262 to R264) -/

/-- A sampling command follows its rule when what it samples are elements. -/
theorem sampleRule {op off : Nat} {i : Reg → Reg → Instr} {m : Params → Nat}
    (word : ∀ a d, encode (i a d) = wordR op a 0 0 d 0 0)
    (row : ∃ r ∈ opcodeRows, r.opcode.toNat = op ∧ r.unused = 0x0FF0FF#32)
    (run : ∀ s a d, exec (i a d) s = sampleCommand (i a d) (m s.params) off a d s)
    (small : ∀ p, p.valid = true → m p + off ≤ 65536) : SampleRule op i m off := by
  intro s a d wf
  refine ⟨wordOf_of_row (word a d) row, fun invalid => ?param, fun valid other => ?phase,
    fun valid squeeze outside => ?addr, fun valid squeeze fits vs f draws => ?ends,
    fun valid squeeze fits stuck => ?stuck⟩
  case param => exact (run s a d).trans (sampleCommand_fault (firstFault_cons_false _ _ (Bool.eq_false_iff.mpr invalid)))
  case phase =>
    exact (run s a d).trans (sampleCommand_fault ((firstFault_cons_true _ _ valid).trans
      (firstFault_cons_false _ _ (State.phaseCheck_fails other))))
  case addr =>
    exact (run s a d).trans (sampleCommand_fault ((firstFault_cons_true _ _ valid).trans
      ((firstFault_cons_true _ _ ((s.phaseCheck_iff _).mpr squeeze)).trans
        (firstFault_cons_false _ _ (State.fitsAll_fails outside)))))
  case ends =>
    have elements : ∀ v ∈ vs.map (· + off), v < 65536 := List.forall_mem_map.mpr fun v mem =>
      (Nat.add_lt_add_right (draws.replicate_lt v mem) off).trans_le (small s.params valid)
    obtain ⟨least, windows⟩ := draws.exists_least
    refine ⟨least, fun k => ⟨fun enough => ?_, fun few => ?_⟩⟩
    · have ends := sample_of_some off ((windows k).1 enough)
      refine (completes_of_sample (s := { s with attempts := k }) (run _ a d) wf
        (State.sampleChecks_pass valid squeeze fits) ends elements).weaken fun t ⟨values, pos, phase, input⟩ =>
          ⟨fun j hj => (values j hj).trans ?_, pos, phase.trans squeeze, input⟩
      exact getD_map_of_lt (· + off) 0 0 (hj.trans_eq draws.replicate_length.symm)
    · have stuck := sample_of_none off ((windows k).2 few)
      exact (run _ a d).trans ((sampleCommand_of_none (s := { s with attempts := k }) _ stuck).trans
        (runCommand_pending _ _ (State.sampleChecks_pass valid squeeze fits)))
  case stuck =>
    exact (run s a d).trans ((sampleCommand_of_none _ stuck).trans
      (runCommand_pending _ _ (State.sampleChecks_pass valid squeeze fits)))

/-- Settles O40: each bound plus its offset is Q or Z, so what is sampled is an element. -/
theorem samplingCommands : Obligations.SamplingCommands := by
  refine ⟨sampleRule (fun _ _ => rfl) (by decide) (fun _ _ _ => rfl) fun p valid => (Params.Q_lt_elem valid).le,
    sampleRule (fun _ _ => rfl) (by decide) (fun _ _ _ => rfl) fun p valid => ?_,
    sampleRule (fun _ _ => rfl) (by decide) (fun _ _ _ => rfl) fun p valid => (Params.Z_lt_elem valid).le⟩
  have := Params.Q_lt_elem valid
  omega

/-! ### FWEXP (43_xof R266, R268) -/

theorem fixedWeight_of_some {S : Nat → Byte} {tries T : Nat} {rs : List Nat} {f : Sampler} (W : Nat)
    (ends : drawMany S tries (shuffleBounds T) (Sampler.fresh 0) = some (rs, f)) :
    fixedWeight S tries T W = some (shuffle (List.replicate W true ++ List.replicate (T - W) false) 0 rs) := by
  simp only [fixedWeight, ends]

/-- FWEXP, its digest's stream having given a bitmap, tests its regions, writes the bitmap and resets the context. -/
theorem execFwexp_of_some {a b : Reg} {s : State} {bm : List Bool}
    (expanded : expandBitmap s.xof s.params s.attempts (s.readBytes (s.val b) s.params.digestBytes) = some bm) :
    execFwexp a b s = runCommand (.fwexp a b) s
      [s.paramCheck, s.addrCheck [(s.val a, s.params.T), (s.val b, s.params.digestBytes)]]
      (.effect ((s.writeBytes (s.val a) (bitmapBytes bm)).xofClear)) := by
  simp only [execFwexp, expanded]

/-- FWEXP faults at its first failing test, whatever the stream gives. -/
theorem execFwexp_fault {a b : Reg} {s : State} {c : FaultCode}
    (fails : firstFault [s.paramCheck, s.addrCheck [(s.val a, s.params.T), (s.val b, s.params.digestBytes)]] = some c) :
    FaultsWith (.fwexp a b) s c := by
  change execFwexp a b s = _
  unfold execFwexp
  exact runCommand_fault _ s _ fails

/-- FWEXP with a valid set and its regions inside BUF completes with the bitmap its digest expands to. -/
theorem completes_fwexp {a b : Reg} {s : State} {bm : List Bool} (wf : Memory.wf s.buf) (valid : s.params.valid = true)
    (fits : Fits s [(s.val a, s.params.T), (s.val b, s.params.digestBytes)])
    (expanded : expandBitmap s.xof s.params s.attempts (s.readBytes (s.val b) s.params.digestBytes) = some bm) :
    Completes (.fwexp a b) s { regions := [(s.val a, s.params.T)], xof := true } (fun t =>
      ContextReset t ∧ Holds t (s.val a) (bitmapBytes bm)) := by
  have passed : firstFault
      [s.paramCheck, s.addrCheck [(s.val a, s.params.T), (s.val b, s.params.digestBytes)]] = none :=
    (firstFault_cons_true _ _ valid).trans (firstFault_cons_true _ _ ((s.fitsAll_iff _).mpr fits))
  have run : exec (.fwexp a b) s = _ := execFwexp_of_some expanded
  exact completes_of_runCommand_writeBytes_context wf
    ((bitmapBytes_length bm).trans (expandBitmap_length valid expanded)) run passed
    fun _ holds phase input pos => ⟨⟨phase, input, pos⟩, holds⟩

theorem ones_eq_of_perm {b : List Bool} {T W : Nat}
    (perm : b.Perm (List.replicate W true ++ List.replicate (T - W) false)) : ones b = W := by
  rw [ones, perm.count_eq]
  simp [List.count_replicate]

/-- Settles O43: enough windows end the draws of the shuffle, and the shuffle only reorders the W ones and T - W zeros. -/
theorem fixedWeightExpansion : Obligations.FixedWeightExpansion := by
  constructor
  · intro s a b wf p
    refine ⟨wordOf_of_row rfl (by decide), fun invalid => ?param, fun valid outside => ?addr,
      fun valid fits rs f draws => ?ends⟩
    case param => exact execFwexp_fault (firstFault_cons_false _ _ (Bool.eq_false_iff.mpr invalid))
    case addr =>
      exact execFwexp_fault ((firstFault_cons_true _ _ valid).trans
        (firstFault_cons_false _ _ (State.fitsAll_fails outside)))
    case ends =>
      obtain ⟨least, windows⟩ := draws.exists_least
      exact ⟨least, fun k enough => completes_fwexp (s := { s with attempts := k }) wf valid fits
        (fixedWeight_of_some p.W ((windows k).1 enough))⟩
  · intro S tries T W b hW expanded
    have perm := fixedWeight_perm expanded hW
    refine ⟨?_, ones_eq_of_perm perm⟩
    rw [perm.length_eq, List.length_append, List.length_replicate, List.length_replicate]
    omega

end Sys2Proof.Machine
end

section
/-! The bit stream of a packed vector as a number: its fields of b bits, what packing and unpacking make of them, the two
round trips, and the stream a BUF region holds (44_codec R300 to R303). -/

namespace Sys2Proof.Machine

/-! ### The fields of a bit stream (44_codec R300) -/

/-- The first n fields of b bits of the bit stream x: field j starts at bit `j·b`. -/
def fields (b n x : Nat) : List Nat := (List.range n).map fun j => x / 2 ^ (j * b) % 2 ^ b

theorem unpackVec_eq_fields (b n : Nat) (bs : Bytes) : unpackVec b n bs = fields b n (bytesNat bs) := rfl

@[simp] theorem fields_length (b n x : Nat) : (fields b n x).length = n := by
  simp [fields]

theorem fields_getD (b x : Nat) {n j : Nat} (hj : j < n) : (fields b n x).getD j 0 = x / 2 ^ (j * b) % 2 ^ b :=
  getD_map_range _ hj

theorem fields_lt {b n x v : Nat} (mem : v ∈ fields b n x) : v < 2 ^ b := by
  obtain ⟨j, -, rfl⟩ := List.mem_map.mp mem
  exact Nat.mod_lt _ (Nat.two_pow_pos b)

theorem fields_succ (b n x : Nat) : fields b (n + 1) x = x % 2 ^ b :: fields b n (x / 2 ^ b) := by
  simp [fields, List.range_succ_eq_map, Nat.div_div_eq_div_mul, ← Nat.pow_add, Nat.add_mul, Nat.add_comm]

/-- Packing the fields of a stream gives the stream's bits that they cover. -/
theorem packNat_fields (b n x : Nat) : packNat b (fields b n x) = x % 2 ^ (n * b) := by
  induction n generalizing x with
  | zero => simp [fields, packNat, Nat.mod_one]
  | succ n ih => rw [fields_succ, packNat, ih, Nat.succ_mul, Nat.add_comm (n * b), Nat.pow_add, Nat.mod_mul]

/-- The fields of packed values are the values. -/
theorem fields_packNat {b : Nat} {vs : List Nat} (small : ∀ v ∈ vs, v < 2 ^ b) :
    fields b vs.length (packNat b vs) = vs := by
  induction vs with
  | nil => rfl
  | cons v vs ih =>
    obtain ⟨head, tail⟩ := List.forall_mem_cons.mp small
    rw [List.length_cons, fields_succ, packNat, Nat.add_mul_mod_self_left, Nat.mod_eq_of_lt head,
      Nat.add_mul_div_left _ _ (Nat.two_pow_pos b), Nat.div_eq_of_lt head, Nat.zero_add, ih tail]

/-- Packed values end with the last of their bits. -/
theorem packNat_lt {b : Nat} {vs : List Nat} (small : ∀ v ∈ vs, v < 2 ^ b) : packNat b vs < 2 ^ (vs.length * b) := by
  rw [← fields_packNat small, packNat_fields, fields_length]
  exact Nat.mod_lt _ (Nat.two_pow_pos _)

/-! ### The bytes of a bit stream (44_codec R300) -/

/-- Bytes form a stream as values of eight bits do. -/
theorem bytesNat_eq_packNat (bs : Bytes) : bytesNat bs = packNat 8 (bs.map BitVec.toNat) := by
  induction bs with
  | nil => rfl
  | cons c cs ih => rw [bytesNat, ih, List.map_cons, packNat]

@[simp] theorem natBytes_length (x len : Nat) : (natBytes x len).length = len := by
  simp [natBytes]

theorem map_toNat_natBytes (x len : Nat) : (natBytes x len).map BitVec.toNat = fields 8 len x := by
  simp [natBytes, fields, Nat.mul_comm]

theorem bytesNat_natBytes (x len : Nat) : bytesNat (natBytes x len) = x % 2 ^ (len * 8) := by
  rw [bytesNat_eq_packNat, map_toNat_natBytes, packNat_fields]

theorem natBytes_bytesNat (bs : Bytes) : natBytes (bytesNat bs) bs.length = bs := by
  have bytes : ∀ v ∈ bs.map BitVec.toNat, v < 2 ^ 8 := List.forall_mem_map.mpr fun c _ => c.isLt
  refine List.map_injective_iff.mpr (fun _ _ => BitVec.eq_of_toNat_eq) ?_
  calc (natBytes (bytesNat bs) bs.length).map BitVec.toNat
    _ = fields 8 (bs.map BitVec.toNat).length (packNat 8 (bs.map BitVec.toNat)) := by
      rw [map_toNat_natBytes, bytesNat_eq_packNat, List.length_map]
    _ = bs.map BitVec.toNat := fields_packNat bytes

theorem bytesNat_lt (bs : Bytes) : bytesNat bs < 2 ^ (bs.length * 8) := by
  rw [← natBytes_bytesNat bs, bytesNat_natBytes, natBytes_bytesNat]
  exact Nat.mod_lt _ (Nat.two_pow_pos _)

/-- `PK(n, b)` bytes have room for n values of b bits. -/
theorem mul_le_packedBytes (n b : Nat) : n * b ≤ packedBytes n b * 8 := by
  unfold packedBytes
  omega

theorem fieldBit_lt_packedBytes {n b j k : Nat} (hj : j < n) (hk : k < b) : j * b + k < 8 * packedBytes n b := by
  have inside : (j + 1) * b ≤ n * b := Nat.mul_le_mul_right b hj
  have room := mul_le_packedBytes n b
  rw [Nat.succ_mul] at inside
  omega

/-- The stream of a packed vector is that of its values: the bytes cut nothing off. -/
theorem bytesNat_packVec {b : Nat} {vs : List Nat} (small : ∀ v ∈ vs, v < 2 ^ b) :
    bytesNat (packVec b vs) = packNat b vs := by
  rw [packVec, bytesNat_natBytes, Nat.mod_eq_of_lt]
  exact (packNat_lt small).trans_le (Nat.pow_le_pow_right (by decide) (mul_le_packedBytes _ b))

/-! ### The round trips (44_codec R303) -/

theorem unpackVec_packVec {b : Nat} {vs : List Nat} (small : ∀ v ∈ vs, v < 2 ^ b) :
    unpackVec b vs.length (packVec b vs) = vs := by
  rw [unpackVec_eq_fields, bytesNat_packVec small, fields_packNat small]

/-- Packing what a string unpacks to gives the string back when its padding is 0. -/
theorem packVec_unpackVec {b n : Nat} {bs : Bytes} (length : bs.length = packedBytes n b)
    (padding : bytesNat bs < 2 ^ (n * b)) : packVec b (unpackVec b n bs) = bs := by
  rw [packVec, unpackVec_length, unpackVec_eq_fields, packNat_fields, Nat.mod_eq_of_lt padding, ← length,
    natBytes_bytesNat]

theorem lt_two_pow_bits_of_allBelow {m : Nat} {vs : List Nat} (below : allBelow m vs = true) :
    ∀ v ∈ vs, v < 2 ^ bits m := fun v mem =>
  (of_decide_eq_true (List.all_eq_true.mp below v mem)).trans_le (isWidth_bits m).1

theorem allBelow_iff_getD {m : Nat} {vs : List Nat} : allBelow m vs = true ↔ ∀ j < vs.length, vs.getD j 0 < m := by
  simp only [allBelow, List.all_eq_true, decide_eq_true_iff, List.forall_mem_iff_getElem]
  refine forall_congr' fun j => forall_congr' fun hj => ?_
  rw [List.getD_eq_getElem _ _ hj]

theorem packedCanonical_iff {m n : Nat} {bs : Bytes} :
    packedCanonical m n bs = true ↔ allBelow m (unpackVec (bits m) n bs) = true ∧ bytesNat bs < 2 ^ (n * bits m) := by
  rw [packedCanonical, Bool.and_eq_true, beq_iff_eq, Nat.div_eq_zero_iff_lt (Nat.two_pow_pos _)]

theorem packedCanonical_packVec {m : Nat} {vs : List Nat} (below : allBelow m vs = true) :
    packedCanonical m vs.length (packVec (bits m) vs) = true := by
  have small := lt_two_pow_bits_of_allBelow below
  rw [packedCanonical_iff, unpackVec_packVec small, bytesNat_packVec small]
  exact ⟨below, packNat_lt small⟩

/-! ### Bit by bit (44_codec R300 to R302) -/

/-- Bit `j·b + k` of packed values is bit k of value j. -/
theorem packNat_testBit {b : Nat} {vs : List Nat} (small : ∀ v ∈ vs, v < 2 ^ b) {j k : Nat} (hj : j < vs.length)
    (hk : k < b) : (packNat b vs).testBit (j * b + k) = (vs.getD j 0).testBit k := by
  have field : packNat b vs / 2 ^ (j * b) % 2 ^ b = vs.getD j 0 := by
    rw [← fields_getD b _ hj, fields_packNat small]
  rw [← field, Nat.testBit_mod_two_pow, decide_eq_true hk, Bool.true_and, Nat.testBit_div_two_pow, Nat.add_comm]

/-- The lowest w bits of a number are the sum of the powers of two at its 1 bits. -/
theorem mod_two_pow_eq_sum (x w : Nat) :
    x % 2 ^ w = ∑ k ∈ Finset.range w, if x.testBit k then 2 ^ k else 0 := by
  induction w with
  | zero => simp [Nat.mod_one]
  | succ w ih =>
    rw [Finset.sum_range_succ, ← ih, Nat.mod_pow_succ, ← Nat.toNat_testBit]
    cases x.testBit w <;> simp

/-- A number below `2^len` lies below `2^k` when its bits from k on are 0. -/
theorem lt_two_pow_iff_testBit {x len : Nat} (bound : x < 2 ^ len) (k : Nat) :
    x < 2 ^ k ↔ ∀ i, k ≤ i → i < len → x.testBit i = false := by
  refine ⟨fun lt i ge _ => Nat.testBit_lt_two_pow (lt.trans_le (Nat.pow_le_pow_right (by decide) ge)), fun zero => ?_⟩
  refine Nat.lt_pow_two_of_testBit x fun i ge => ?_
  rcases Nat.lt_or_ge i len with inside | past
  · exact zero i ge inside
  · exact Nat.testBit_lt_two_pow (bound.trans_le (Nat.pow_le_pow_right (by decide) past))

/-- The stream bits of a region that holds the bytes of a stream are the stream's. -/
theorem Holds.streamBit_natBytes {t : State} {addr x len : Nat} (holds : Holds t addr (natBytes x len)) {k : Nat}
    (hk : k < 8 * len) : streamBit t addr k = x.testBit k := by
  have byte : t.byteAt (addr + k / 8) = BitVec.ofNat 8 (x / 2 ^ (8 * (k / 8))) := by
    rw [holds (k / 8) (by rw [natBytes_length]; omega)]
    simp [natBytes]
  have low : k % 8 < 8 := Nat.mod_lt k (by decide)
  rw [streamBit, byte, BitVec.getLsbD_ofNat, decide_eq_true low, Bool.true_and, Nat.testBit_div_two_pow,
    Nat.mod_add_div]

/-- The stream bits of a region are those of the number its bytes form. -/
theorem State.streamBit_readBytes (s : State) (addr : Nat) {len k : Nat} (hk : k < 8 * len) :
    streamBit s addr k = (bytesNat (s.readBytes addr len)).testBit k := by
  have holds := s.holds_readBytes addr len
  rw [← natBytes_bytesNat (s.readBytes addr len), State.readBytes_length] at holds
  exact holds.streamBit_natBytes hk

end Sys2Proof.Machine
end

section
/-! PACK and UNPACK: their modulus and its width, their rules bit by bit, and one after the other on the machine
(44_codec R301 to R303; 30_encoding R135; log 14). Settles O44 and O45. -/

namespace Sys2Proof.Machine

/-! ### The modulus a selector chooses (30_encoding R135) -/

theorem Params.selected_eq (p : Params) (sel : Sel) : p.selected sel = if sel = 0 then p.Q else p.Z := by
  simp only [Params.selected, BitVec.toNat_eq]
  rfl

theorem legal_sel_iff (sel : Sel) : decide (sel.toNat ≤ 1) = true ↔ sel = 0 ∨ sel = 1 := by
  revert sel
  decide

theorem Params.bits_selected_le {p : Params} (valid : p.valid = true) (sel : Sel) : bits (p.selected sel) ≤ 16 := by
  refine bits_le (Nat.le_of_lt ?_)
  rw [p.selected_eq]
  split
  · exact Params.Q_lt_elem valid
  · exact Params.Z_lt_elem valid

/-- What unpacks at the width of a modulus of a valid set are elements (20_memory R100). -/
theorem unpackVec_lt_elem {p : Params} (valid : p.valid = true) {sel : Sel} {n v : Nat} {bs : Bytes}
    (mem : v ∈ unpackVec (bits (p.selected sel)) n bs) : v < 65536 :=
  (fields_lt mem).trans_le (Nat.pow_le_pow_right (by decide) (Params.bits_selected_le valid sel))

/-! ### Writing CAN (10_state R43) -/

theorem EffectShape.setCan {s u : State} (shape : EffectShape s u) (b : Bool) : EffectShape s (u.setCan b) :=
  { shape with }

@[simp] theorem State.setCan_can (s : State) (b : Bool) : (s.setCan b).can = b := by
  rw [State.can, State.setCan_flags, setBit_getLsbD]
  exact if_pos (by decide)

/-- A write of CAN besides changes no other flag. -/
theorem Kept.setCan {rs : List Region} {s u : State} (kept : Kept { regions := rs } s u) (b : Bool) :
    Kept { regions := rs, flags := [2] } s (u.setCan b) :=
  { kept with
    flags := fun k other => by
      rw [State.setCan_flags, setBit_getLsbD, if_neg fun same => other (List.mem_singleton.mpr same.1)]
      exact kept.flags k List.not_mem_nil }

/-! ### The rule of PACK (44_codec R301) -/

/-- A command that passes its tests and writes a string to BUF completes with it. -/
theorem completes_of_runCommand_writeBytes {i : Instr} {s : State} {checks : List Check} {addr n : Nat} {bs : Bytes}
    {P : State → Prop} (canonical : Memory.wf s.buf) (length : bs.length = n)
    (run : exec i s = runCommand i s checks (.effect (s.writeBytes addr bs))) (passed : firstFault checks = none)
    (result : ∀ t : State, Holds t addr bs → P t) : Completes i s { regions := [(addr, n)] } P := by
  subst length
  exact completes_of_runCommand run passed (.writeBytes s addr bs) (s.writeBytes_kept addr bs)
    (result _ fun _ hj => State.byteAt_writeBytes_inside canonical addr bs hj)

/-- A state that holds a packed vector shows its values bit by bit, and zeros after them. -/
theorem Holds.packVec_streamBit {t : State} {addr b : Nat} {vs : List Nat} (small : ∀ v ∈ vs, v < 2 ^ b)
    (holds : Holds t addr (packVec b vs)) :
    (∀ j < vs.length, ∀ k < b, streamBit t addr (j * b + k) = (vs.getD j 0).testBit k) ∧
      ∀ k, vs.length * b ≤ k → k < 8 * packedBytes vs.length b → streamBit t addr k = false := by
  constructor
  · intro j hj k hk
    rw [holds.streamBit_natBytes (fieldBit_lt_packedBytes hj hk), packNat_testBit small hj hk]
  · intro k past inside
    rw [holds.streamBit_natBytes inside]
    exact Nat.testBit_lt_two_pow ((packNat_lt small).trans_le (Nat.pow_le_pow_right (by decide) past))

theorem pack_follows {s : State} (wf : Memory.wf s.buf) (a b d : Reg) (sel : Sel) :
    let m := s.params.selected sel
    let n := s.val d
    Follows (.pack a b d sel) s
      [(.illegal, sel = 0 ∨ sel = 1), (.param, s.params.valid = true),
        (.addr, Fits s [(s.val a, packedBytes n (bits m)), (s.val b, 2 * n)]), (.range, ElemsBelow s (s.val b) n m)]
      { regions := [(s.val a, packedBytes n (bits m))] }
      (fun t =>
        (∀ j < n, ∀ k < bits m,
          streamBit t (s.val a) (j * bits m + k) = (Memory.elem s.buf (s.val b) j).testBit k) ∧
        ∀ k, n * bits m ≤ k → k < 8 * packedBytes n (bits m) → streamBit t (s.val a) k = false) := by
  intro m n
  refine follows_cons (execPack.eq_def a b d sel s) (legal_sel_iff sel) fun _ run => follows_cons run Iff.rfl fun _ run =>
    follows_cons run (s.fitsAll_iff _) fun _ run => follows_cons run (s.allBelow_readElems_iff m _ n) fun below run =>
      completes_of_runCommand_writeBytes wf (by simp [m, n]) run firstFault_nil fun t holds => ?_
  have small := lt_two_pow_bits_of_allBelow ((s.allBelow_readElems_iff m _ n).mpr below)
  obtain ⟨values, padding⟩ := holds.packVec_streamBit small
  rw [State.readElems_length] at values padding
  refine ⟨fun j hj k hk => ?_, padding⟩
  rw [values j hj k hk, s.readElems_getD _ hj]

/-! ### The rule of UNPACK (44_codec R302) -/

/-- Value j of a vector unpacked from a region is the sum of its stream bits. -/
theorem State.unpackVec_readBytes_getD (s : State) (addr b : Nat) {n j : Nat} (hj : j < n) :
    (unpackVec b n (s.readBytes addr (packedBytes n b))).getD j 0 =
      ∑ k ∈ Finset.range b, if streamBit s addr (j * b + k) then 2 ^ k else 0 := by
  rw [unpackVec_eq_fields, fields_getD b _ hj, mod_two_pow_eq_sum]
  refine Finset.sum_congr rfl fun k hk => ?_
  have hk := Finset.mem_range.mp hk
  rw [s.streamBit_readBytes addr (fieldBit_lt_packedBytes hj hk), Nat.testBit_div_two_pow, Nat.add_comm]

/-- A region is a canonical encoding when the values it unpacks to are below the modulus and its padding bits are 0. -/
theorem State.packedCanonical_readBytes_iff (s : State) (addr m n : Nat) :
    let bs := s.readBytes addr (packedBytes n (bits m))
    packedCanonical m n bs = true ↔
      (∀ j < n, (unpackVec (bits m) n bs).getD j 0 < m) ∧
        ∀ k, n * bits m ≤ k → k < 8 * packedBytes n (bits m) → streamBit s addr k = false := by
  intro bs
  have length : bs.length * 8 = 8 * packedBytes n (bits m) := by rw [State.readBytes_length, Nat.mul_comm]
  rw [packedCanonical_iff, lt_two_pow_iff_testBit (bytesNat_lt bs), length]
  refine and_congr ?values (forall_congr' fun k => imp_congr_right fun _ => forall_congr' fun inside => ?padding)
  case values => rw [allBelow_iff_getD, unpackVec_length]
  case padding => rw [s.streamBit_readBytes addr inside]

theorem unpack_follows {s : State} (wf : Memory.wf s.buf) (a b d : Reg) (sel : Sel) :
    let m := s.params.selected sel
    let n := s.val d
    Follows (.unpack a b d sel) s
      [(.illegal, sel = 0 ∨ sel = 1), (.param, s.params.valid = true),
        (.addr, Fits s [(s.val a, 2 * n), (s.val b, packedBytes n (bits m))])]
      { regions := [(s.val a, 2 * n)], flags := [2] }
      (fun t =>
        (∀ j < n, Memory.elem t.buf (s.val a) j =
          ∑ k ∈ Finset.range (bits m), if streamBit s (s.val b) (j * bits m + k) then 2 ^ k else 0) ∧
        (t.can = true ↔ (∀ j < n, Memory.elem t.buf (s.val a) j < m) ∧
          ∀ k, n * bits m ≤ k → k < 8 * packedBytes n (bits m) → streamBit s (s.val b) k = false)) := by
  intro m n
  refine follows_cons (execUnpack.eq_def a b d sel s) (legal_sel_iff sel) fun _ run =>
    follows_cons run Iff.rfl fun valid run => follows_cons run (s.fitsAll_iff _) fun _ run =>
      completes_of_runCommand run firstFault_nil ((EffectShape.writeElems s _ _).setCan _)
        ((s.writeElems_kept _ (unpackVec_length ..)).setCan _) ?_
  let vs := unpackVec (bits m) n (s.readBytes (s.val b) (packedBytes n (bits m)))
  have written : ∀ j < n, Memory.elem (s.writeElems (s.val a) vs).buf (s.val a) j = vs.getD j 0 := fun j hj =>
    State.elem_writeElems wf _ (fun _ => unpackVec_lt_elem valid) (hj.trans_eq (unpackVec_length ..).symm)
  refine ⟨fun j hj => (written j hj).trans (s.unpackVec_readBytes_getD _ _ hj), ?_⟩
  refine (Bool.eq_iff_iff.mp (State.setCan_can _ _)).trans ((s.packedCanonical_readBytes_iff _ m n).trans
    (and_congr_left' (forall_congr' fun j => forall_congr' fun hj => ?_)))
  exact iff_of_eq (congrArg (· < m) (written j hj).symm)

/-- Settles O44: the width of a modulus is `BITS` of it, so both commands are those of the rules. -/
theorem packAndUnpackBitByBit : Obligations.PackAndUnpackBitByBit := by
  intro s a b d sel w wf
  rw [← s.params.selected_eq sel]
  intro m n len width
  obtain rfl := width.bits_eq
  exact ⟨⟨wordOf_of_row rfl (by decide), pack_follows wf a b d sel⟩, wordOf_of_row rfl (by decide),
    unpack_follows wf a b d sel⟩

/-! ### PACK and UNPACK one after the other (44_codec R303) -/

section Passed

variable {s : State} {sel : Sel} (valid : s.params.valid = true) (legal : sel = 0 ∨ sel = 1)
include valid legal

theorem exec_pack_of_fits {a b d : Reg}
    (fits : Fits s [(s.val a, packedBytes (s.val d) (bits (s.params.selected sel))), (s.val b, 2 * s.val d)])
    (below : ElemsBelow s (s.val b) (s.val d) (s.params.selected sel)) :
    exec (.pack a b d sel) s = .next (s.writeBytes (s.val a)
      (packVec (bits (s.params.selected sel)) (s.readElems (s.val b) (s.val d)))).complete :=
  runCommand_effect _ _ _ ((firstFault_cons_true _ _ ((legal_sel_iff sel).mpr legal)).trans
    ((firstFault_cons_true _ _ valid).trans ((firstFault_cons_true _ _ ((s.fitsAll_iff _).mpr fits)).trans
      (firstFault_cons_true _ _ ((s.allBelow_readElems_iff ..).mpr below)))))

theorem exec_unpack_of_fits {a b d : Reg} {bs : Bytes}
    (fits : Fits s [(s.val a, 2 * s.val d), (s.val b, packedBytes (s.val d) (bits (s.params.selected sel)))])
    (read : s.readBytes (s.val b) (packedBytes (s.val d) (bits (s.params.selected sel))) = bs) :
    exec (.unpack a b d sel) s =
      .next ((s.writeElems (s.val a) (unpackVec (bits (s.params.selected sel)) (s.val d) bs)).setCan
        (packedCanonical (s.params.selected sel) (s.val d) bs)).complete := by
  subst read
  exact runCommand_effect _ _ _ ((firstFault_cons_true _ _ ((legal_sel_iff sel).mpr legal)).trans
    ((firstFault_cons_true _ _ valid).trans (firstFault_cons_true _ _ ((s.fitsAll_iff _).mpr fits))))

/-- UNPACK of what PACK has just written gives the elements that were packed, with CAN = 1. -/
theorem exec_pack_unpack {a b c d : Reg} (wf : Memory.wf s.buf)
    (fits : Fits s [(s.val a, packedBytes (s.val d) (bits (s.params.selected sel))), (s.val b, 2 * s.val d),
      (s.val c, 2 * s.val d)])
    (below : ElemsBelow s (s.val b) (s.val d) (s.params.selected sel)) :
    ∃ t u, exec (.pack a b d sel) s = .next t ∧ exec (.unpack c a d sel) t = .next u ∧ u.can = true ∧
      ∀ j < s.val d, Memory.elem u.buf (s.val c) j = Memory.elem s.buf (s.val b) j := by
  obtain ⟨packed, source, target⟩ : _ ∧ _ ∧ _ := by simpa only [Fits, List.forall_mem_cons] using fits
  let m := s.params.selected sel
  let n := s.val d
  let vs := s.readElems (s.val b) n
  let t := (s.writeBytes (s.val a) (packVec (bits m) vs)).complete
  have allBelow_vs : allBelow m vs = true := (s.allBelow_readElems_iff ..).mpr below
  have length : vs.length = n := State.readElems_length ..
  have read : t.readBytes (t.val a) (packedBytes n (bits m)) = packVec (bits m) vs := by
    have self := State.readBytes_writeBytes_self wf (s.val a) (packVec (bits m) vs)
    rwa [packVec_length, length] at self
  have unpacked : unpackVec (bits m) n (packVec (bits m) vs) = vs :=
    length ▸ unpackVec_packVec (lt_two_pow_bits_of_allBelow allBelow_vs)
  have canonical : packedCanonical m n (packVec (bits m) vs) = true := length ▸ packedCanonical_packVec allBelow_vs
  refine ⟨t, _, exec_pack_of_fits valid legal (List.forall_mem_cons.mpr ⟨packed, List.forall_mem_singleton.mpr source⟩)
    below, exec_unpack_of_fits (s := t) valid legal
      (List.forall_mem_cons.mpr ⟨target.1, List.forall_mem_singleton.mpr packed⟩) read, ?can, fun j hj => ?elem⟩
  case can => exact (State.setCan_can _ _).trans canonical
  case elem =>
    have small : ∀ v ∈ unpackVec (bits m) n (packVec (bits m) vs), v < 65536 := fun _ => unpackVec_lt_elem valid
    have written := State.elem_writeElems (s := t) (Memory.write_wf wf _ _) (s.val c) small
      (hj.trans_eq (unpackVec_length ..).symm)
    exact written.trans (by rw [unpacked, s.readElems_getD _ hj])

end Passed

/-- Settles O45: the fields of a packed stream are its values, and a stream without padding bits is packed from its
fields. -/
theorem codecRoundTrips : Obligations.CodecRoundTrips :=
  ⟨fun _ _ below => ⟨unpackVec_packVec (lt_two_pow_bits_of_allBelow below), packedCanonical_packVec below⟩,
    fun _ _ _ length canonical => packVec_unpackVec length (packedCanonical_iff.mp canonical).2,
    fun _ _ _ _ _ _ wf valid legal fits below => exec_pack_unpack valid legal wf fits below⟩

end Sys2Proof.Machine
end

section
/-! Trees by node number: what stands at a node of a tree computed from its leaves up or from its root down, that the two
rules determine it, and the disclosure set of a bitmap with its size (45_seed_tree R320, R322, R327). Settles O48. -/

namespace Sys2Proof.Machine

/-! ### A tree computed from its leaves up (45_seed_tree R320) -/

theorem getD_drop {α : Type} (l : List α) (k n : Nat) (dflt : α) : (l.drop k).getD n dflt = l.getD (k + n) dflt := by
  simp only [List.getD_eq_getElem?_getD, List.getElem?_drop]

/-- The nodes computed before `ms` stand behind those of `ms`. -/
theorem drop_treeUpOver {α : Type} (dflt : α) (f : Nat → α → α → α) (leaves : List α) (ms ns : List Nat) :
    (treeUpOver dflt f leaves (ms ++ ns)).drop ms.length = treeUpOver dflt f leaves ns := by
  induction ms with
  | nil => rfl
  | cons m ms ih => exact ih

section FromLeaves

variable {α : Type} {dflt : α} {f : Nat → α → α → α} {leaves : List α}

theorem length_treeUp : (treeUp dflt f leaves).length = leaves.length + (leaves.length - 1) := by
  rw [treeUp_eq_treeUpOver, length_treeUpOver, List.length_range]

/-- Leaf i stands at node T - 1 + i. -/
theorem treeUp_getD_leaf (i : Nat) : (treeUp dflt f leaves).getD (leaves.length - 1 + i) dflt = leaves.getD i dflt := by
  have behind := drop_treeUpOver dflt f leaves (List.range (leaves.length - 1)) []
  rw [List.append_nil, List.length_range] at behind
  rw [← getD_drop, treeUp_eq_treeUpOver, behind]
  rfl

/-- An inner node is made of its children 2n + 1 and 2n + 2. -/
theorem treeUp_getD_inner {n : Nat} (inner : n < leaves.length - 1) :
    (treeUp dflt f leaves).getD n dflt =
      f n ((treeUp dflt f leaves).getD (2 * n + 1) dflt) ((treeUp dflt f leaves).getD (2 * n + 2) dflt) := by
  obtain ⟨k, size⟩ := Nat.exists_eq_add_of_lt inner
  let later := List.range' (n + 1) k
  let below := treeUpOver dflt f leaves later
  have order : List.range (leaves.length - 1) = List.range n ++ n :: later := by
    rw [size, Nat.add_assoc, List.range_add, List.range_succ_eq_map]
    simp [later, List.range'_eq_map_range, Nat.add_comm, Nat.add_left_comm]
  have here : (treeUp dflt f leaves).drop n = f n (below.getD n dflt) (below.getD (n + 1) dflt) :: below := by
    have behind := drop_treeUpOver dflt f leaves (List.range n) (n :: later)
    rwa [← order, List.length_range] at behind
  have child : ∀ j, (treeUp dflt f leaves).getD (n + (j + 1)) dflt = below.getD j dflt := fun j => by
    rw [← getD_drop, here, List.getD_cons_succ]
  rw [show 2 * n + 1 = n + (n + 1) by omega, show 2 * n + 2 = n + (n + 1 + 1) by omega, child, child]
  exact (getD_drop (treeUp dflt f leaves) n 0 dflt).symm.trans (congrArg (·.getD 0 dflt) here)

/-- The leaves and the rule of the inner nodes determine the tree. -/
theorem treeUp_getD_eq {g : Nat → α} (leaf : ∀ i < leaves.length, g (leaves.length - 1 + i) = leaves.getD i dflt)
    (inner : ∀ n < leaves.length - 1, g n = f n (g (2 * n + 1)) (g (2 * n + 2))) (n : Nat)
    (hn : n < leaves.length + (leaves.length - 1)) : (treeUp dflt f leaves).getD n dflt = g n := by
  by_cases isInner : n < leaves.length - 1
  · rw [treeUp_getD_inner isInner, treeUp_getD_eq leaf inner (2 * n + 1) (by omega),
      treeUp_getD_eq leaf inner (2 * n + 2) (by omega), inner n isInner]
  · obtain ⟨i, rfl⟩ := Nat.exists_eq_add_of_le (Nat.le_of_not_lt isInner)
    rw [treeUp_getD_leaf, leaf i (by omega)]
termination_by leaves.length + leaves.length - n

end FromLeaves

/-! ### A tree computed from its root down (45_seed_tree R320, R321) -/

section FromRoot

variable {α : Type} {dflt : α} {f : Nat → α → α × α} {root : α}

/-- One more expansion appends the children of the next node. -/
theorem treeDown_succ (k : Nat) :
    treeDown dflt f root (k + 1 + 1) = treeDown dflt f root (k + 1) ++
      [(f k ((treeDown dflt f root (k + 1)).getD k dflt)).1, (f k ((treeDown dflt f root (k + 1)).getD k dflt)).2] := by
  simp only [treeDown, Nat.add_sub_cancel, List.range_succ, List.foldl_append, List.foldl_cons, List.foldl_nil]

/-- Later expansions change no node that stands. -/
theorem treeDown_getD_of_le {k m n : Nat} (later : k ≤ m) (stands : n ≤ 2 * k) :
    (treeDown dflt f root (m + 1)).getD n dflt = (treeDown dflt f root (k + 1)).getD n dflt := by
  induction m, later using Nat.le_induction with
  | base => rfl
  | succ m later ih =>
    have inside : n < (treeDown dflt f root (m + 1)).length := by
      rw [treeDown_length]
      omega
    rw [treeDown_succ, List.getD_append _ _ _ _ inside, ih]

theorem treeDown_getD_root (T : Nat) : (treeDown dflt f root T).getD 0 dflt = root :=
  treeDown_getD_of_le (k := 0) (m := T - 1) (Nat.zero_le _) (Nat.zero_le _)

/-- The children 2n + 1 and 2n + 2 are made of node n. -/
theorem treeDown_getD_children {n T : Nat} (inner : n < T - 1) :
    (treeDown dflt f root T).getD (2 * n + 1) dflt = (f n ((treeDown dflt f root T).getD n dflt)).1 ∧
      (treeDown dflt f root T).getD (2 * n + 2) dflt = (f n ((treeDown dflt f root T).getD n dflt)).2 := by
  have stands : ∀ k m, k ≤ 2 * m → m ≤ T - 1 →
      (treeDown dflt f root T).getD k dflt = (treeDown dflt f root (m + 1)).getD k dflt :=
    fun k m inside le => treeDown_getD_of_le (m := T - 1) le inside
  have size : (treeDown dflt f root (n + 1)).length = 2 * n + 1 := by rw [treeDown_length]; omega
  rw [stands (2 * n + 1) (n + 1) (by omega) inner, stands (2 * n + 2) (n + 1) (by omega) inner,
    stands n n (by omega) (by omega), treeDown_succ]
  constructor
  · rw [List.getD_append_right _ _ _ _ (by omega), size, Nat.sub_self]
    rfl
  · rw [List.getD_append_right _ _ _ _ (by omega), size, show 2 * n + 2 - (2 * n + 1) = 1 by omega]
    rfl

/-- The root and the rule of the children determine the tree. -/
theorem treeDown_getD_eq {g : Nat → α} {T : Nat} (top : g 0 = root)
    (children : ∀ n < T - 1, g (2 * n + 1) = (f n (g n)).1 ∧ g (2 * n + 2) = (f n (g n)).2) (n : Nat)
    (hn : n < 1 + 2 * (T - 1)) : (treeDown dflt f root T).getD n dflt = g n := by
  induction n using Nat.strong_induction_on with
  | _ n ih =>
    obtain rfl | ⟨m, below, rfl | rfl⟩ : n = 0 ∨ ∃ m < n, n = 2 * m + 1 ∨ n = 2 * m + 2 := by
      by_cases isRoot : n = 0
      · exact .inl isRoot
      · exact .inr ⟨(n - 1) / 2, by omega, by omega⟩
    · rw [treeDown_getD_root, top]
    · rw [(treeDown_getD_children (by omega)).1, ih m below (by omega), (children m (by omega)).1]
    · rw [(treeDown_getD_children (by omega)).2, ih m below (by omega), (children m (by omega)).2]

end FromRoot

/-! ### The disclosure set (45_seed_tree R322, R327) -/

theorem isFull_fullNodes (b : List Bool) : IsFull b fun n => (fullNodes b).getD n false where
  leaves i _ := treeUp_getD_leaf i
  inner _ isInner := treeUp_getD_inner isInner

/-- The rule of the full nodes determines them. -/
theorem fullNodes_getD {b : List Bool} {full : Nat → Bool} (isFull : IsFull b full) {n : Nat}
    (hn : n < 2 * b.length - 1) : (fullNodes b).getD n false = full n :=
  treeUp_getD_eq isFull.leaves isFull.inner n (by omega)

/-- A full node that is the root or has a parent that is not full. -/
def maximalFull (full : Nat → Bool) (n : Nat) : Bool := full n && (n == 0 || !full ((n - 1) / 2))

theorem maximalFull_iff {full : Nat → Bool} {n : Nat} :
    maximalFull full n = true ↔ full n = true ∧ (n = 0 ∨ full ((n - 1) / 2) = false) := by
  simp only [maximalFull, Bool.and_eq_true, Bool.or_eq_true, beq_iff_eq, Bool.not_eq_true']

theorem dset_eq_filter {b : List Bool} {full : Nat → Bool} (isFull : IsFull b full) :
    dset b = (List.range (2 * b.length - 1)).filter (maximalFull full) := by
  have size : (fullNodes b).length = 2 * b.length - 1 := by rw [fullNodes, length_treeUp]; omega
  simp only [dset, size]
  refine List.filter_congr fun n hn => ?_
  have inside := List.mem_range.mp hn
  rw [fullNodes_getD isFull inside, fullNodes_getD isFull (by omega), maximalFull]

theorem mem_dset_iff {b : List Bool} {full : Nat → Bool} (isFull : IsFull b full) {n : Nat} :
    n ∈ dset b ↔ n < 2 * b.length - 1 ∧ full n = true ∧ (n = 0 ∨ full ((n - 1) / 2) = false) := by
  rw [dset_eq_filter isFull, List.mem_filter, List.mem_range, maximalFull_iff]

theorem dset_pairwise (b : List Bool) : (dset b).Pairwise (· < ·) := List.pairwise_lt_range.filter _

theorem dset_nodup (b : List Bool) : (dset b).Nodup := (dset_pairwise b).imp Nat.ne_of_lt

/-- Among the first nodes, those with a full parent are two for every full inner node, and all of them are full. -/
theorem countP_maximalFull {full : Nat → Bool} {k : Nat}
    (inner : ∀ n < k, full n = (full (2 * n + 1) && full (2 * n + 2))) :
    (List.range (2 * k + 1)).countP (maximalFull full) + 2 * (List.range k).countP full =
      (List.range (2 * k + 1)).countP full := by
  induction k with
  | zero => simp [maximalFull]
  | succ k ih =>
    have before := ih fun n hn => inner n (Nat.lt_succ_of_lt hn)
    have left : maximalFull full (2 * k + 1) = (full (2 * k + 1) && !full k) := by
      rw [maximalFull, show (2 * k + 1 - 1) / 2 = k by omega]
      rfl
    have right : maximalFull full (2 * k + 2) = (full (2 * k + 2) && !full k) := by
      rw [maximalFull, show (2 * k + 2 - 1) / 2 = k by omega]
      rfl
    have here := inner k (Nat.lt_succ_self k)
    rw [show 2 * (k + 1) + 1 = 2 * k + 1 + 1 + 1 by omega]
    simp only [List.range_succ, List.countP_append, List.countP_singleton, left, right] at before ⊢
    cases parent : full k with
    | true =>
      obtain ⟨isLeft, isRight⟩ := Bool.and_eq_true_iff.mp (here.symm.trans parent)
      simp only [isLeft, isRight, Bool.not_true, Bool.and_false, Bool.false_eq_true, if_true, if_false]
      omega
    | false =>
      simp only [Bool.not_false, Bool.and_true, Bool.false_eq_true, if_false]
      omega

/-- The disclosure set has one node per 1 of the bitmap, less one per full inner node. -/
theorem dset_length_add {b : List Bool} {full : Nat → Bool} (nonempty : 1 ≤ b.length) (isFull : IsFull b full) :
    (dset b).length + (List.range (b.length - 1)).countP full = ones b := by
  have nodes := countP_maximalFull isFull.inner
  have leaves : (List.range b.length).countP (fun i => full (b.length - 1 + i)) = ones b := by
    rw [← markedRounds_length, markedRounds, ← List.countP_eq_length_filter]
    exact List.countP_congr fun i hi => by rw [isFull.leaves i (List.mem_range.mp hi)]
  have split : (List.range (2 * (b.length - 1) + 1)).countP full =
      (List.range (b.length - 1)).countP full + ones b := by
    rw [show 2 * (b.length - 1) + 1 = b.length - 1 + b.length by omega, List.range_add, List.countP_append,
      List.countP_map, ← leaves]
    rfl
  rw [dset_eq_filter isFull, ← List.countP_eq_length_filter, show 2 * b.length - 1 = 2 * (b.length - 1) + 1 by omega]
  omega

/-- Settles O48: the set is a filter of the ascending node numbers, and the full inner nodes make up for what it lacks of
the ones. -/
theorem disclosureSetIsTheMaximalFullNodes : Obligations.DisclosureSetIsTheMaximalFullNodes := by
  intro b full nonempty isFull
  refine ⟨fun n => mem_dset_iff isFull, dset_pairwise b, ?_⟩
  have count := dset_length_add nonempty isFull
  omega

end Sys2Proof.Machine
end

section
/-! Arrays of items of one size, in a string and in BUF, and the seeds: those of a seed tree, those a disclosure holds, and
those rebuilt from it (20_memory R100; 45_seed_tree R321, R324 to R326, R328). -/

namespace Sys2Proof.Machine

/-! ### The items of an array (20_memory R100) -/

theorem getD_mem {α : Type} {l : List α} {n : Nat} (hn : n < l.length) (dflt : α) : l.getD n dflt ∈ l := by
  rw [List.getD_eq_getElem _ _ hn]
  exact List.getElem_mem hn

theorem getD_map_range_of_lt {α : Type} (g : Nat → α) {n i : Nat} (dflt : α) (hi : i < n) :
    ((List.range n).map g).getD i dflt = g i := by
  rw [getD_map_of_lt g 0 dflt (by simpa using hi), List.getD_eq_getElem _ _ (by simpa using hi), List.getElem_range]

theorem itemAt_length {size k : Nat} {bs : Bytes} (inside : (k + 1) * size ≤ bs.length) :
    (itemAt size bs k).length = size := by
  rw [itemAt, List.length_take, List.length_drop, Nat.min_eq_left]
  rw [Nat.succ_mul] at inside
  omega

theorem itemAt_zero_append {size : Nat} {item : Bytes} (length : item.length = size) (bs : Bytes) :
    itemAt size (item ++ bs) 0 = item := by
  rw [itemAt, Nat.zero_mul, List.drop_zero, List.take_left' length]

theorem itemAt_succ_append {size : Nat} {item : Bytes} (length : item.length = size) (bs : Bytes) (k : Nat) :
    itemAt size (item ++ bs) (k + 1) = itemAt size bs k := by
  rw [itemAt, itemAt, Nat.succ_mul, Nat.add_comm, ← length, ← List.drop_drop, List.drop_left]

/-- The k-th item of an array, whatever follows the array. -/
theorem itemAt_flatten_append {size : Nat} {items : List Bytes} (each : ∀ x ∈ items, x.length = size) (rest : Bytes)
    {k : Nat} (hk : k < items.length) : itemAt size (items.flatten ++ rest) k = items.getD k [] := by
  induction items generalizing k with
  | nil => exact absurd hk (Nat.not_lt_zero k)
  | cons item items ih =>
    obtain ⟨length, each⟩ := List.forall_mem_cons.mp each
    rw [List.flatten_cons, List.append_assoc]
    cases k with
    | zero => exact itemAt_zero_append length _
    | succ k => exact (itemAt_succ_append length _ k).trans (ih each (Nat.lt_of_succ_lt_succ hk))

theorem flatten_length {size : Nat} {items : List Bytes} (each : ∀ x ∈ items, x.length = size) :
    items.flatten.length = items.length * size := by
  rw [List.length_flatten, List.eq_replicate_of_mem (List.forall_mem_map.mpr each), List.sum_replicate,
    List.length_map, smul_eq_mul]

/-! ### Arrays in BUF (20_memory R100) -/

theorem State.readBytes_getElem (s : State) (addr : Nat) {n j : Nat} (hj : j < (s.readBytes addr n).length) :
    (s.readBytes addr n)[j] = s.byteAt (addr + j) := (s.holds_readBytes addr n j hj).symm

/-- The bytes read where a string is held are that string. -/
theorem Holds.readBytes_eq {t : State} {addr : Nat} {bs : Bytes} (holds : Holds t addr bs) :
    t.readBytes addr bs.length = bs :=
  List.ext_getElem (State.readBytes_length ..) fun j hj inside =>
    (t.readBytes_getElem addr hj).trans (holds j inside)

/-- The bytes read from equal runs are equal. -/
theorem State.readBytes_congr {s t : State} {addr n : Nat}
    (same : ∀ j < n, t.byteAt (addr + j) = s.byteAt (addr + j)) : t.readBytes addr n = s.readBytes addr n := by
  refine List.ext_getElem (by simp) fun j hj _ => ?_
  rw [State.readBytes_getElem, State.readBytes_getElem, same j (by simpa using hj)]

theorem State.itemAt_readBytes (s : State) (addr : Nat) {size n k : Nat} (inside : (k + 1) * size ≤ n) :
    itemAt size (s.readBytes addr n) k = s.readBytes (addr + k * size) size := by
  refine List.ext_getElem ?_ fun j hj _ => ?_
  · rw [itemAt_length (by simpa using inside), State.readBytes_length]
  · simp only [itemAt, List.getElem_take, List.getElem_drop, State.readBytes_getElem, Nat.add_assoc]

/-- A state that holds a string holds its items. -/
theorem Holds.itemAt {t : State} {addr : Nat} {bs : Bytes} (holds : Holds t addr bs) (size k : Nat) :
    Holds t (addr + k * size) (Machine.itemAt size bs k) := fun j hj => by
  have inside : k * size + j < bs.length := by
    rw [Machine.itemAt, List.length_take, List.length_drop] at hj
    omega
  rw [Nat.add_assoc, holds (k * size + j) inside]
  simp only [Machine.itemAt, List.getElem_take, List.getElem_drop]

/-- A state that holds an array, and whatever follows it, holds each of its items. -/
theorem Holds.getD_flatten_append {t : State} {addr size : Nat} {items : List Bytes} {rest : Bytes}
    (each : ∀ x ∈ items, x.length = size) (holds : Holds t addr (items.flatten ++ rest)) {k : Nat}
    (hk : k < items.length) : Holds t (addr + k * size) (items.getD k []) := by
  have item := holds.itemAt size k
  rwa [itemAt_flatten_append each rest hk] at item

theorem Holds.getD_flatten {t : State} {addr size : Nat} {items : List Bytes} (each : ∀ x ∈ items, x.length = size)
    (holds : Holds t addr items.flatten) {k : Nat} (hk : k < items.length) :
    Holds t (addr + k * size) (items.getD k []) :=
  Holds.getD_flatten_append (rest := []) each (by rwa [List.append_nil]) hk

/-- Behind the string of a zero-filled field a state holds zeros. -/
theorem Holds.zeroFill_tail {t : State} {addr n j : Nat} {bs : Bytes} (holds : Holds t addr (zeroFill n bs))
    (past : bs.length ≤ j) (inside : j < n) : t.byteAt (addr + j) = 0 := by
  rw [holds j (by rw [zeroFill_length (by omega)]; exact inside)]
  simp only [zeroFill, List.getElem_append_right past, List.getElem_replicate]

/-! ### The seeds of a tree (45_seed_tree R321) -/

/-- The rule of the seeds determines them. -/
theorem seedNodes_getD {X : Bytes → Nat → Byte} {p : Params} {root salt : Bytes} {seed : Nat → Bytes}
    (tree : IsSeedTree X p root salt seed) {n : Nat} (hn : n < 1 + 2 * (p.T - 1)) :
    (seedNodes X p root salt).getD n [] = seed n :=
  treeDown_getD_eq tree.root (fun m inner => ⟨tree.left m inner, tree.right m inner⟩) n hn

theorem isSeedTree_seedNodes (X : Bytes → Nat → Byte) (p : Params) (root salt : Bytes) :
    IsSeedTree X p root salt fun n => (seedNodes X p root salt).getD n [] where
  root := treeDown_getD_root p.T
  left _ inner := (treeDown_getD_children inner).1
  right _ inner := (treeDown_getD_children inner).2

theorem seedNodes_each_length {X : Bytes → Nat → Byte} {p : Params} {root salt : Bytes}
    (length : root.length = p.seedBytes) : ∀ sd ∈ seedNodes X p root salt, sd.length = p.seedBytes :=
  treeDown_forall p.T length (fun _ _ => streamBytes_length ..) fun _ _ => streamBytes_length ..

theorem seedNodes_getD_length {X : Bytes → Nat → Byte} {p : Params} {root salt : Bytes}
    (length : root.length = p.seedBytes) {n : Nat} (hn : n < 1 + 2 * (p.T - 1)) :
    ((seedNodes X p root salt).getD n []).length = p.seedBytes := by
  have inside : n < (seedNodes X p root salt).length := by rwa [seedNodes, treeDown_length]
  exact seedNodes_each_length length _ (getD_mem inside [])

theorem roundSeeds_getD_of_tree {X : Bytes → Nat → Byte} {p : Params} {root salt : Bytes} (tree : p.flat = false)
    (i : Nat) : (roundSeeds X p root salt).getD i [] = (seedNodes X p root salt).getD (p.T - 1 + i) [] := by
  rw [roundSeeds, tree, if_neg Bool.false_ne_true, getD_drop]

theorem roundSeeds_getD_of_flat {X : Bytes → Nat → Byte} {p : Params} {root salt : Bytes} (flat : p.flat = true)
    {i : Nat} (hi : i < p.T) : (roundSeeds X p root salt).getD i [] = flatSeed X p root salt i := by
  rw [roundSeeds, flat, if_pos rfl, getD_map_range_of_lt _ _ hi]

theorem roundSeeds_each_length {X : Bytes → Nat → Byte} {p : Params} {root salt : Bytes}
    (length : root.length = p.seedBytes) : ∀ sd ∈ roundSeeds X p root salt, sd.length = p.seedBytes := by
  unfold roundSeeds
  split
  · exact List.forall_mem_map.mpr fun i _ => flatSeed_length ..
  · exact fun sd mem => seedNodes_each_length length sd (List.mem_of_mem_drop mem)

theorem roundSeeds_getD_length {X : Bytes → Nat → Byte} {p : Params} {root salt : Bytes} (valid : p.valid = true)
    (length : root.length = p.seedBytes) {i : Nat} (hi : i < p.T) :
    ((roundSeeds X p root salt).getD i []).length = p.seedBytes := by
  have inside := hi.trans_eq (roundSeeds_length valid X root salt).symm
  exact roundSeeds_each_length length _ (getD_mem inside [])

/-! ### The disclosed seeds (45_seed_tree R324, R326) -/

theorem mem_markedRounds_iff {b : List Bool} {i : Nat} : i ∈ markedRounds b ↔ b.getD i false = true := by
  rw [markedRounds, List.mem_filter, List.mem_range]
  refine ⟨And.right, fun marked => ⟨?_, marked⟩⟩
  by_contra outside
  rw [List.getD_eq_default _ _ (by omega)] at marked
  exact Bool.false_ne_true marked

theorem markedRounds_nodup (b : List Bool) : (markedRounds b).Nodup := List.nodup_range.filter _

theorem dset_lt {b : List Bool} {n : Nat} (mem : n ∈ dset b) : n < 2 * b.length - 1 :=
  ((mem_dset_iff (isFull_fullNodes b)).mp mem).1

theorem coverCount_of_tree {p : Params} (tree : p.flat = false) (b : List Bool) : coverCount p b = (dset b).length := by
  rw [coverCount, tree, if_neg Bool.false_ne_true]

theorem coverCount_of_flat {p : Params} (flat : p.flat = true) (b : List Bool) :
    coverCount p b = (markedRounds b).length := by
  rw [coverCount, flat, if_pos rfl, markedRounds_length]

section Disclosed

variable {X : Bytes → Nat → Byte} {p : Params} {root salt : Bytes} {b : List Bool}

theorem disclosedSeeds_getD_of_tree (tree : p.flat = false) {k : Nat} (hk : k < (dset b).length) :
    (disclosedSeeds X p root salt b).getD k [] = (seedNodes X p root salt).getD ((dset b).getD k 0) [] := by
  rw [disclosedSeeds, tree, if_neg Bool.false_ne_true, getD_map_of_lt _ 0 _ hk]

theorem disclosedSeeds_getD_of_flat (flat : p.flat = true) {k : Nat} (hk : k < (markedRounds b).length) :
    (disclosedSeeds X p root salt b).getD k [] = flatSeed X p root salt ((markedRounds b).getD k 0) := by
  rw [disclosedSeeds, flat, if_pos rfl, getD_map_of_lt _ 0 _ hk]

theorem disclosedSeeds_each_length (size : b.length = p.T) (length : root.length = p.seedBytes) :
    ∀ sd ∈ disclosedSeeds X p root salt b, sd.length = p.seedBytes := by
  unfold disclosedSeeds
  split
  · exact List.forall_mem_map.mpr fun i _ => flatSeed_length ..
  · refine List.forall_mem_map.mpr fun n mem => seedNodes_getD_length length ?_
    have inside := dset_lt mem
    omega

/-- The k-th item of a disclosure field is the k-th disclosed seed. -/
theorem itemAt_disclosureField (size : b.length = p.T) (length : root.length = p.seedBytes) {k : Nat}
    (hk : k < coverCount p b) :
    itemAt p.seedBytes (disclosureField X p root salt b) k = (disclosedSeeds X p root salt b).getD k [] :=
  itemAt_flatten_append (disclosedSeeds_each_length size length) _ (by rwa [disclosedSeeds_length])

end Disclosed

/-! ### The rebuilt seeds (45_seed_tree R325, R326) -/

theorem suppliedFor_of_getD {covered : List Nat} (nodup : covered.Nodup) (size : Nat) (bs : Bytes) {n k dflt : Nat}
    (hk : k < covered.length) (here : covered.getD k dflt = n) :
    suppliedFor size bs covered n = some (itemAt size bs k) := by
  rw [List.getD_eq_getElem _ _ hk] at here
  have found : covered.idxOf? n = some k := List.idxOf?_eq_some_iff.mpr
    ⟨hk, here, fun j hj same => hj.ne ((nodup.getElem_inj_iff).mp (same.trans here.symm))⟩
  rw [suppliedFor, found, Option.map_some]

theorem suppliedFor_of_not_mem {covered : List Nat} {n : Nat} (absent : n ∉ covered) (size : Nat) (bs : Bytes) :
    suppliedFor size bs covered n = none := by
  rw [suppliedFor, List.idxOf?_eq_none_iff.mpr absent, Option.map_none]

theorem suppliedFor_length {size n : Nat} {bs : Bytes} {covered : List Nat} {item : Bytes}
    (enough : covered.length * size ≤ bs.length) (given : suppliedFor size bs covered n = some item) :
    item.length = size := by
  obtain ⟨k, found, rfl⟩ := Option.map_eq_some_iff.mp given
  obtain ⟨hk, -, -⟩ := List.idxOf?_eq_some_iff.mp found
  exact itemAt_length ((Nat.mul_le_mul_right size hk).trans enough)

/-- The items supplied for the disclosure set are the seeds of its nodes, and every full inner node expands to its
children: what STREB is given and what it may derive. -/
structure Supplies (X : Bytes → Nat → Byte) (p : Params) (supplied salt : Bytes) (b : List Bool) (full : Nat → Bool)
    (seed : Nat → Bytes) : Prop where
  given : ∀ k < (dset b).length, seed ((dset b).getD k 0) = itemAt p.seedBytes supplied k
  left : ∀ n < p.T - 1, full n = true → seed (2 * n + 1) = (childSeeds X p salt n (seed n)).1
  right : ∀ n < p.T - 1, full n = true → seed (2 * n + 2) = (childSeeds X p salt n (seed n)).2

section Rebuilt

variable {X : Bytes → Nat → Byte} {p : Params} {supplied salt : Bytes} {b : List Bool} {full : Nat → Bool}
  {seed : Nat → Bytes}

/-- A node of the disclosure set is given its seed and no other node is given one. -/
theorem Supplies.suppliedFor_eq (supplies : Supplies X p supplied salt b full seed) (isFull : IsFull b full) {n : Nat}
    (inside : n < 2 * b.length - 1) (maximal : n = 0 ∨ full ((n - 1) / 2) = false) :
    suppliedFor p.seedBytes supplied (dset b) n = if full n then some (seed n) else none := by
  split
  case isTrue isFullNode =>
    obtain ⟨k, hk, rfl⟩ := List.getElem_of_mem ((mem_dset_iff isFull).mpr ⟨inside, isFullNode, maximal⟩)
    have here := List.getD_eq_getElem (dset b) 0 hk
    rw [suppliedFor_of_getD (dset_nodup b) _ _ hk here, ← supplies.given k hk, here]
  case isFalse notFull =>
    refine suppliedFor_of_not_mem (fun mem => ?_) _ _
    obtain ⟨-, isFullNode, -⟩ := (mem_dset_iff isFull).mp mem
    exact notFull isFullNode

/-- Rebuilding gives every full node its seed, and no seed to any other node. -/
theorem Supplies.rebuiltNodes_getD (supplies : Supplies X p supplied salt b full seed) (isFull : IsFull b full)
    (size : b.length = p.T) {n : Nat} (hn : n < 1 + 2 * (p.T - 1)) (nonempty : 1 ≤ p.T) :
    (rebuiltNodes X p supplied salt b).getD n none = if full n then some (seed n) else none := by
  unfold rebuiltNodes
  refine treeDown_getD_eq (g := fun n => if full n then some (seed n) else none) ?top (fun m inner => ?children) n hn
  case top => exact (supplies.suppliedFor_eq isFull (by omega) (.inl rfl)).symm
  case children =>
    cases parent : full m with
    | true =>
      have both := (isFull.inner m (by omega)).symm.trans parent
      obtain ⟨isLeft, isRight⟩ := Bool.and_eq_true_iff.mp both
      simp only [isLeft, isRight, if_true]
      exact ⟨congrArg some (supplies.left m inner parent), congrArg some (supplies.right m inner parent)⟩
    | false =>
      have ofLeft : full ((2 * m + 1 - 1) / 2) = false := by rwa [show (2 * m + 1 - 1) / 2 = m by omega]
      have ofRight : full ((2 * m + 2 - 1) / 2) = false := by rwa [show (2 * m + 2 - 1) / 2 = m by omega]
      exact ⟨(supplies.suppliedFor_eq isFull (by omega) (.inr ofLeft)).symm,
        (supplies.suppliedFor_eq isFull (by omega) (.inr ofRight)).symm⟩

theorem rebuiltSeeds_getD {i : Nat} (hi : i < p.T) :
    (rebuiltSeeds X p supplied salt b).getD i [] =
      if b.getD i false then
        (if p.flat then suppliedFor p.seedBytes supplied (markedRounds b) i
          else (rebuiltNodes X p supplied salt b).getD (p.T - 1 + i) none).getD (List.replicate p.seedBytes 0)
      else List.replicate p.seedBytes 0 := by
  rw [rebuiltSeeds, getD_map_range_of_lt _ _ hi]

theorem rebuiltSeeds_getD_of_hidden {i : Nat} (hi : i < p.T) (hidden : b.getD i false = false) :
    (rebuiltSeeds X p supplied salt b).getD i [] = List.replicate p.seedBytes 0 := by
  rw [rebuiltSeeds_getD hi, hidden, if_neg Bool.false_ne_true]

/-- In tree mode a disclosed round gets the seed of its leaf. -/
theorem Supplies.rebuiltSeeds_getD (supplies : Supplies X p supplied salt b full seed) (isFull : IsFull b full)
    (size : b.length = p.T) (tree : p.flat = false) {i : Nat} (hi : i < p.T) (disclosed : b.getD i false = true) :
    (rebuiltSeeds X p supplied salt b).getD i [] = seed (p.T - 1 + i) := by
  have leaf : full (p.T - 1 + i) = true := by rw [← size, isFull.leaves i (by omega), disclosed]
  rw [Machine.rebuiltSeeds_getD hi, disclosed, if_pos rfl, tree, if_neg Bool.false_ne_true,
    supplies.rebuiltNodes_getD isFull size (by omega) (by omega), leaf, if_pos rfl, Option.getD_some]

/-- In flat mode the k-th disclosed round gets the k-th item. -/
theorem rebuiltSeeds_getD_of_flat (flat : p.flat = true) {i k dflt : Nat} (hi : i < p.T)
    (hk : k < (markedRounds b).length) (here : (markedRounds b).getD k dflt = i) :
    (rebuiltSeeds X p supplied salt b).getD i [] = itemAt p.seedBytes supplied k := by
  have disclosed : b.getD i false = true := by
    rw [← mem_markedRounds_iff, ← here]
    exact getD_mem hk dflt
  rw [rebuiltSeeds_getD hi, disclosed, if_pos rfl, flat, if_pos rfl,
    suppliedFor_of_getD (markedRounds_nodup b) _ _ hk here, Option.getD_some]

end Rebuilt

/-- A disclosure supplies the seeds of the tree. -/
theorem supplies_disclosureField {X : Bytes → Nat → Byte} {p : Params} {root salt : Bytes} {b : List Bool}
    (size : b.length = p.T) (length : root.length = p.seedBytes) (tree : p.flat = false) (full : Nat → Bool) :
    Supplies X p (disclosureField X p root salt b) salt b full fun n => (seedNodes X p root salt).getD n [] where
  given k hk := by
    rw [itemAt_disclosureField size length (by rwa [coverCount_of_tree tree]), disclosedSeeds_getD_of_tree tree hk]
  left n inner _ := (isSeedTree_seedNodes X p root salt).left n inner
  right n inner _ := (isSeedTree_seedNodes X p root salt).right n inner

/-- Rebuilding from a disclosure gives every disclosed round its own seed (45_seed_tree R328). -/
theorem rebuiltSeeds_disclosureField (X : Bytes → Nat → Byte) {p : Params} {root : Bytes} (salt : Bytes) {b : List Bool}
    (size : b.length = p.T) (length : root.length = p.seedBytes) {i : Nat} (hi : i < p.T)
    (disclosed : b.getD i false = true) :
    (rebuiltSeeds X p (disclosureField X p root salt b) salt b).getD i [] = (roundSeeds X p root salt).getD i [] := by
  cases mode : p.flat with
  | false =>
    rw [(supplies_disclosureField size length mode _).rebuiltSeeds_getD (isFull_fullNodes b) size mode hi disclosed,
      roundSeeds_getD_of_tree mode]
  | true =>
    obtain ⟨k, hk, rfl⟩ := List.getElem_of_mem (mem_markedRounds_iff.mpr disclosed)
    have here := List.getD_eq_getElem (markedRounds b) 0 hk
    rw [rebuiltSeeds_getD_of_flat mode hi hk here,
      itemAt_disclosureField size length (by rwa [coverCount_of_flat mode]), disclosedSeeds_getD_of_flat mode hk, here,
      roundSeeds_getD_of_flat mode hi]

/-! ### The size of the rebuilt seeds (45_seed_tree R325) -/

section Sizes

variable {X : Bytes → Nat → Byte} {p : Params} {supplied salt : Bytes} {b : List Bool}

/-- With an item for every node of the disclosure set, every seed set has SEED_BYTES bytes. -/
theorem rebuiltNodes_each_length (enough : (dset b).length * p.seedBytes ≤ supplied.length) :
    ∀ node ∈ rebuiltNodes X p supplied salt b, ∀ sd ∈ node, sd.length = p.seedBytes := by
  unfold rebuiltNodes
  refine treeDown_forall p.T (fun sd given => suppliedFor_length enough given) (fun n node sd child => ?_)
    fun n node sd child => ?_
  all_goals
    cases node with
    | none => exact suppliedFor_length enough child
    | some parent => exact Option.some.inj child ▸ streamBytes_length ..

/-- With items enough, every rebuilt seed has SEED_BYTES bytes. -/
theorem rebuiltSeeds_each_length (enough : coverCount p b * p.seedBytes ≤ supplied.length) :
    ∀ sd ∈ rebuiltSeeds X p supplied salt b, sd.length = p.seedBytes := by
  have orZero : ∀ node : Option Bytes, (∀ sd ∈ node, sd.length = p.seedBytes) →
      (node.getD (List.replicate p.seedBytes 0)).length = p.seedBytes := fun node sized => by
    cases node with
    | none => exact List.length_replicate
    | some sd => exact sized sd rfl
  refine List.forall_mem_map.mpr fun i _ => ?_
  split
  · refine orZero _ ?_
    split
    case isTrue flat =>
      rw [coverCount_of_flat flat] at enough
      exact fun sd given => suppliedFor_length enough given
    case isFalse tree =>
      rw [coverCount_of_tree (Bool.eq_false_iff.mpr tree)] at enough
      exact getD_of_forall (rebuiltNodes_each_length enough) (fun sd absent => absurd absent (Option.not_mem_none sd)) _
  · exact List.length_replicate

end Sizes

end Sys2Proof.Machine
end

section
/-! STBUILD, STDISC and STREB: their rules in the model's functions, and in those of the spec (45_seed_tree R323 to R326).
Settles O46 and O47. -/

namespace Sys2Proof.Machine

/-! ### Rules and frames (60_exceptions R453) -/

theorem Follows.weaken {i : Instr} {s : State} {tests : List (FaultCode × Prop)} {e : Writes} {P R : State → Prop}
    (follows : Follows i s tests e P) (implies : ∀ t, P t → R t) : Follows i s tests e R := by
  induction tests with
  | nil => exact Completes.weaken follows implies
  | cons test tests ih => exact ⟨follows.1, fun passes => ih (follows.2 passes)⟩

/-- A command all of whose tests hold completes. -/
theorem Follows.completes {i : Instr} {s : State} {tests : List (FaultCode × Prop)} {e : Writes} {P : State → Prop}
    (follows : Follows i s tests e P) (pass : ∀ test ∈ tests, test.2) : Completes i s e P := by
  induction tests with
  | nil => exact follows
  | cons test tests ih =>
    obtain ⟨passes, rest⟩ := List.forall_mem_cons.mp pass
    exact ih (follows.2 passes) rest

theorem State.bitmapOk_readBytes_iff (s : State) (addr : Nat) :
    bitmapOk (s.readBytes addr s.params.T) = true ↔ BitmapAt s addr := by
  simp only [bitmapOk, BitmapAt, State.readBytes, Memory.read, State.byteAt, List.all_map, List.all_eq_true,
    List.mem_range, Function.comp_apply, Bool.or_eq_true, beq_iff_eq]

@[simp] theorem bitmapAt_length (s : State) (addr : Nat) : (bitmapAt s addr).length = s.params.T := by
  simp [bitmapAt, bitmapOf]

theorem Kept.setX {e : Writes} {s u : State} (kept : Kept e s u) (r : Reg) (v : Nat) :
    Kept { e with regs := r :: e.regs } s (u.setX r v) :=
  { kept with
    regs := fun q other => by
      obtain ⟨isOther, unlisted⟩ := not_or.mp (mt List.mem_cons.mpr other)
      exact (u.getX_setX_of_ne v isOther).trans (kept.regs q unlisted) }

theorem Kept.setStr {e : Writes} {s u : State} (kept : Kept e s u) (b : Bool) :
    Kept { e with flags := 3 :: e.flags } s (u.setStr b) :=
  { kept with
    flags := fun k other => by
      obtain ⟨isOther, unlisted⟩ := not_or.mp (mt List.mem_cons.mpr other)
      rw [State.setStr_flags, setBit_getLsbD, if_neg fun same => isOther same.1]
      exact kept.flags k unlisted }

@[simp] theorem State.setStr_str (s : State) (b : Bool) : (s.setStr b).str = b := by
  rw [State.str, State.setStr_flags, setBit_getLsbD]
  exact if_pos (by decide)

/-- A command past its tests that writes a string only when `ok`, and records `ok` in STR, completes so. -/
theorem completes_of_runCommand_writeBytes_setStr {i : Instr} {s : State} {checks : List Check} {addr n : Nat}
    {bs : Bytes} {ok : Bool} (canonical : Memory.wf s.buf) (length : ok = true → bs.length = n)
    (run : exec i s =
      runCommand i s checks (.effect (((if ok then s.writeBytes addr bs else s).setStr ok).xofClear)))
    (passed : firstFault checks = none) :
    Completes i s { regions := [(addr, n)], flags := [3], xof := true } (fun t => ContextReset t ∧ t.str = ok ∧
      (ok = false → ∀ x, t.byteAt x = s.byteAt x) ∧ (ok = true → Holds t addr bs)) := by
  cases ok with
  | true =>
    have kept := ((s.writeBytes_kept addr bs).setStr true).context .idle [] 0
    rw [length rfl] at kept
    exact completes_of_runCommand run passed { EffectShape.writeBytes s addr bs with } kept
      ⟨⟨rfl, rfl, rfl⟩, State.setStr_str _ true, nofun,
        fun _ _ hj => State.byteAt_writeBytes_inside canonical addr bs hj⟩
  | false =>
    have unwritten : Kept { regions := [(addr, n)] } s s := { Kept.refl s with bytes := fun _ _ => rfl }
    exact completes_of_runCommand run passed { EffectShape.refl s with } ((unwritten.setStr false).context .idle [] 0)
      ⟨⟨rfl, rfl, rfl⟩, State.setStr_str _ false, fun _ _ => rfl, nofun⟩

/-! ### The rules in the model's functions (45_seed_tree R323 to R325) -/

section Commands

variable {s : State} (wf : Memory.wf s.buf)
include wf

theorem stbuild_follows (a b c : Reg) :
    let p := s.params
    let root := s.readBytes (s.val b) p.seedBytes
    let salt := s.readBytes (s.val c) p.saltBytes
    Follows (.stbuild a b c) s
      [(.param, p.valid = true),
        (.addr, Fits s [(s.val a, p.T * p.seedBytes), (s.val b, p.seedBytes), (s.val c, p.saltBytes)])]
      { regions := [(s.val a, p.T * p.seedBytes)], xof := true }
      (fun t => ContextReset t ∧
        ∀ i < p.T, Holds t (s.val a + i * p.seedBytes) ((roundSeeds s.xof p root salt).getD i [])) := by
  intro p root salt
  refine follows_cons (execStbuild.eq_def a b c s) Iff.rfl fun valid run =>
    follows_cons run (s.fitsAll_iff _) fun _ run => ?_
  have each : ∀ sd ∈ roundSeeds s.xof p root salt, sd.length = p.seedBytes :=
    roundSeeds_each_length (s.readBytes_length ..)
  have number : (roundSeeds s.xof p root salt).length = p.T := roundSeeds_length valid ..
  exact completes_of_runCommand_writeBytes_context wf ((flatten_length each).trans (congrArg (· * _) number)) run
    firstFault_nil fun t holds phase input pos =>
      ⟨⟨phase, input, pos⟩, fun i hi => holds.getD_flatten each (hi.trans_eq number.symm)⟩

theorem stdisc_follows (a b c d e : Reg) :
    let p := s.params
    let root := s.readBytes (s.val b) p.seedBytes
    let salt := s.readBytes (s.val c) p.saltBytes
    let bm := bitmapAt s (s.val d)
    Follows (.stdisc a b c d e) s
      [(.param, p.valid = true),
        (.addr, Fits s [(s.val a, p.stMax * p.seedBytes), (s.val b, p.seedBytes), (s.val c, p.saltBytes),
          (s.val d, p.T)]),
        (.range, BitmapAt s (s.val d)), (.bound, coverCount p bm ≤ p.stMax)]
      { regs := [e], regions := [(s.val a, p.stMax * p.seedBytes)], xof := true }
      (fun t => ContextReset t ∧ t.val e = coverCount p bm ∧ coverCount p bm ≤ p.stMax ∧
        Holds t (s.val a) (disclosureField s.xof p root salt bm)) := by
  intro p root salt bm
  refine follows_cons (execStdisc.eq_def a b c d e s) Iff.rfl fun valid run =>
    follows_cons run (s.fitsAll_iff _) fun _ run => follows_cons run (s.bitmapOk_readBytes_iff _) fun _ run =>
      follows_cons run decide_eq_true_iff fun bound run => ?_
  have length : (disclosureField s.xof p root salt bm).length = p.stMax * p.seedBytes :=
    disclosureField_length salt (s.readBytes_length ..).le bound
  have small : coverCount p bm < 2 ^ 32 := bound.trans_lt p.stmax.isLt
  have kept := ((s.writeBytes_kept (s.val a) (disclosureField s.xof p root salt bm)).setX e (coverCount p bm)).context
    .idle [] 0
  rw [length] at kept
  exact completes_of_runCommand run firstFault_nil { EffectShape.writeBytes s _ _ with } kept
    ⟨⟨rfl, rfl, rfl⟩, State.val_setX_self _ e small, bound,
      fun _ hj => State.byteAt_writeBytes_inside wf (s.val a) _ hj⟩

theorem streb_follows (a b c d e : Reg) :
    let p := s.params
    let supplied := s.readBytes (s.val b) (p.stMax * p.seedBytes)
    let salt := s.readBytes (s.val c) p.saltBytes
    let bm := bitmapAt s (s.val d)
    Follows (.streb a b c d e) s
      [(.param, p.valid = true),
        (.addr, Fits s [(s.val a, p.T * p.seedBytes), (s.val b, p.stMax * p.seedBytes), (s.val c, p.saltBytes),
          (s.val d, p.T)]),
        (.range, BitmapAt s (s.val d))]
      { regions := [(s.val a, p.T * p.seedBytes)], flags := [3], xof := true }
      (fun t => ContextReset t ∧ (t.str = true ↔ s.val e = coverCount p bm ∧ coverCount p bm ≤ p.stMax) ∧
        (t.str = false → ∀ x, t.byteAt x = s.byteAt x) ∧
        (t.str = true → ∀ i < p.T,
          Holds t (s.val a + i * p.seedBytes) ((rebuiltSeeds s.xof p supplied salt bm).getD i []))) := by
  intro p supplied salt bm
  refine follows_cons (execStreb.eq_def a b c d e s) Iff.rfl fun _ run =>
    follows_cons run (s.fitsAll_iff _) fun _ run => follows_cons run (s.bitmapOk_readBytes_iff _) fun _ run => ?_
  have agrees : (decide (s.val e = coverCount p bm) && decide (coverCount p bm ≤ p.stMax)) = true ↔
      s.val e = coverCount p bm ∧ coverCount p bm ≤ p.stMax := by
    rw [Bool.and_eq_true, decide_eq_true_iff, decide_eq_true_iff]
  have number : (rebuiltSeeds s.xof p supplied salt bm).length = p.T := rebuiltSeeds_length ..
  have each : coverCount p bm ≤ p.stMax → ∀ sd ∈ rebuiltSeeds s.xof p supplied salt bm, sd.length = p.seedBytes :=
    fun bound => rebuiltSeeds_each_length (by rw [State.readBytes_length]; exact Nat.mul_le_mul_right _ bound)
  have completes := completes_of_runCommand_writeBytes_setStr (n := p.T * p.seedBytes) wf
    (fun ok => (flatten_length (each (agrees.mp ok).2)).trans (congrArg (· * _) number)) run firstFault_nil
  refine completes.weaken fun t ⟨reset, str, unwritten, written⟩ => ?_
  have agreesStr := (Bool.eq_iff_iff.mp str).trans agrees
  refine ⟨reset, agreesStr, fun clear => unwritten (str.symm.trans clear), fun set i hi => ?_⟩
  exact (written (str.symm.trans set)).getD_flatten (each (agreesStr.mp set).2) (hi.trans_eq number.symm)

end Commands

/-- Settles O46: the seeds written are those of the one tree that R321 describes, and the field ends in zeros. -/
theorem seedTreeBuildAndDisclosure : Obligations.SeedTreeBuildAndDisclosure := by
  intro s a b c d e wf p root salt bm flatSeedOf count
  have rootLength : root.length = p.seedBytes := s.readBytes_length ..
  have size : bm.length = p.T := bitmapAt_length ..
  refine ⟨⟨wordOf_of_row rfl (by decide), (stbuild_follows wf a b c).weaken ?build⟩, wordOf_of_row rfl (by decide),
    (stdisc_follows wf a b c d e).weaken ?disc⟩
  case build =>
    rintro t ⟨reset, seeds⟩
    refine ⟨reset, fun mode seed tree i hi => ?_, fun mode i hi => ?_⟩
    · have holds := seeds i hi
      rwa [roundSeeds_getD_of_tree mode, seedNodes_getD tree (by omega)] at holds
    · have holds := seeds i hi
      rwa [roundSeeds_getD_of_flat mode hi] at holds
  case disc =>
    rintro t ⟨reset, number, bound, field⟩
    have each : ∀ sd ∈ disclosedSeeds s.xof p root salt bm, sd.length = p.seedBytes :=
      disclosedSeeds_each_length size rootLength
    have seeds : ∀ k < coverCount p bm,
        Holds t (s.val a + k * p.seedBytes) ((disclosedSeeds s.xof p root salt bm).getD k []) :=
      fun k hk => field.getD_flatten_append each (by rwa [disclosedSeeds_length])
    refine ⟨reset, number, fun mode seed tree k hk => ?_, fun mode k hk => ?_, fun j past inside => ?_⟩
    · have holds := seeds k hk
      have hk : k < (dset bm).length := by rwa [← coverCount_of_tree mode]
      have node := dset_lt (getD_mem hk 0)
      rwa [disclosedSeeds_getD_of_tree mode hk, seedNodes_getD tree (by omega)] at holds
    · have holds := seeds k hk
      rwa [disclosedSeeds_getD_of_flat mode (by rwa [← coverCount_of_flat mode])] at holds
    · refine field.zeroFill_tail ?_ inside
      rw [flatten_length each, disclosedSeeds_length]
      exact past

/-- Settles O47: the seeds that the supplied ones determine at the full nodes are those STREB sets there. -/
theorem seedTreeRebuild : Obligations.SeedTreeRebuild := by
  intro s a b c d e wf p salt bm item count
  have size : bm.length = p.T := bitmapAt_length ..
  refine ⟨wordOf_of_row rfl (by decide), (streb_follows wf a b c d e).weaken ?_⟩
  rintro t ⟨reset, agrees, unwritten, seeds⟩
  refine ⟨reset, agrees, unwritten, fun set i hi => ?_⟩
  have holds := seeds set i hi
  have items : ∀ k < coverCount p bm,
      itemAt p.seedBytes (s.readBytes (s.val b) (p.stMax * p.seedBytes)) k = item k := fun k hk =>
    s.itemAt_readBytes _ (Nat.mul_le_mul_right _ (hk.trans_le (agrees.mp set).2))
  refine ⟨fun hidden => ?hidden, fun disclosed mode seed full isFull given expand => ?tree,
    fun mode k hk here => ?flat⟩
  case hidden => rwa [rebuiltSeeds_getD_of_hidden hi hidden] at holds
  case tree =>
    have supplies : Supplies s.xof p (s.readBytes (s.val b) (p.stMax * p.seedBytes)) salt bm full seed :=
      { given := fun k hk => by
          have hk : k < coverCount p bm := by rwa [coverCount_of_tree mode]
          rw [items k hk, given k hk]
        left := fun n inner fullNode => (expand n inner fullNode).1
        right := fun n inner fullNode => (expand n inner fullNode).2 }
    rwa [supplies.rebuiltSeeds_getD isFull size mode hi disclosed] at holds
  case flat =>
    rwa [rebuiltSeeds_getD_of_flat mode hi (by rwa [← coverCount_of_flat mode]) here, items k hk] at holds

end Sys2Proof.Machine
end

section
/-! What a frame keeps of a later command's operands, and STREB on the output of STDISC beside STBUILD (45_seed_tree R328).
Settles O50. -/

namespace Sys2Proof.Machine

/-! ### The operands a frame keeps (20_memory R101) -/

/-- A command keeps BUF canonical. -/
theorem exec_keeps_wf {i : Instr} {s t : State} (wf : Memory.wf s.buf) (run : exec i s = .next t) :
    Memory.wf t.buf := by
  rcases exec_cases i s with ⟨c, fault⟩ | ⟨u, shape, effect⟩ | ⟨c, u, -, entropy, late⟩ | pending
  · rw [← Host.Outcome.next.inj (fault.symm.trans run), State.takeFault_buf]
    exact wf
  · exact Host.Outcome.next.inj (effect.symm.trans run) ▸ shape.wf wf
  · rw [← Host.Outcome.next.inj (late.symm.trans run), State.takeFault_buf]
    rcases entropy with rfl | rfl <;> exact wf
  · exact Host.Outcome.next.inj (pending.symm.trans run) ▸ wf

section Frame

variable {e : Writes} {s t : State} (kept : Kept e s t)
include kept

theorem Kept.val_eq {r : Reg} (unlisted : r ∉ e.regs) : t.val r = s.val r :=
  congrArg BitVec.toNat (kept.regs r unlisted)

theorem Kept.readBytes_eq {addr n : Nat} (outside : ∀ j < n, Outside e.regions (addr + j)) :
    t.readBytes addr n = s.readBytes addr n := State.readBytes_congr fun j hj => kept.bytes _ (outside j hj)

theorem Kept.fits {rs : List Region} (fits : Fits s rs) : Fits t rs := by
  unfold Fits
  rwa [kept.size]

theorem Kept.xof_eq : t.xof = s.xof := by
  obtain ⟨known, -⟩ := kept.outside
  funext input k
  simp only [State.xof, State.xofStream, kept.params, known]

end Frame

theorem Fits.subset {s : State} {rs qs : List Region} (fits : Fits s rs) (within : qs ⊆ rs) : Fits s qs :=
  fun g mem => fits g (within mem)

/-! ### STREB after STDISC (45_seed_tree R328) -/

/-- STREB, its tests passed and the count the one its bitmap requires, sets STR and writes the rebuilt seeds. -/
theorem exec_streb_of_count {t : State} (wf : Memory.wf t.buf) {r a c d e : Reg} {supplied salt : Bytes}
    {bm : List Bool} (valid : t.params.valid = true)
    (fits : Fits t [(t.val r, t.params.T * t.params.seedBytes), (t.val a, t.params.stMax * t.params.seedBytes),
      (t.val c, t.params.saltBytes), (t.val d, t.params.T)])
    (bitmap : BitmapAt t (t.val d))
    (readSupplied : t.readBytes (t.val a) (t.params.stMax * t.params.seedBytes) = supplied)
    (readSalt : t.readBytes (t.val c) t.params.saltBytes = salt) (readBitmap : bitmapAt t (t.val d) = bm)
    (claimed : t.val e = coverCount t.params bm) (bound : coverCount t.params bm ≤ t.params.stMax) :
    ∃ u, exec (.streb r a c d e) t = .next u ∧ u.str = true ∧ ∀ i < t.params.T,
      Holds u (t.val r + i * t.params.seedBytes) ((rebuiltSeeds t.xof t.params supplied salt bm).getD i []) := by
  subst readSupplied readSalt readBitmap
  obtain ⟨u, run, -, -, -, agrees, -, seeds⟩ := (streb_follows wf r a c d e).completes (by
    simp only [List.forall_mem_cons]
    exact ⟨valid, fits, bitmap, nofun⟩)
  have set := agrees.mpr ⟨claimed, bound⟩
  exact ⟨u, run, set, seeds set⟩

/-- STREB on what STDISC has just written rebuilds the seeds from the disclosure that the same operands give. -/
theorem exec_stdisc_streb {s : State} (wf : Memory.wf s.buf) (valid : s.params.valid = true) {a b c d e r : Reg}
    (fits : Fits s [(s.val a, s.params.stMax * s.params.seedBytes), (s.val b, s.params.seedBytes),
      (s.val c, s.params.saltBytes), (s.val d, s.params.T), (s.val r, s.params.T * s.params.seedBytes)])
    (bitmap : BitmapAt s (s.val d)) (bound : coverCount s.params (bitmapAt s (s.val d)) ≤ s.params.stMax)
    (apart : e ∉ [a, c, d, r])
    (saltApart : ∀ j < s.params.saltBytes,
      Outside [(s.val a, s.params.stMax * s.params.seedBytes)] (s.val c + j))
    (bitmapApart : ∀ j < s.params.T, Outside [(s.val a, s.params.stMax * s.params.seedBytes)] (s.val d + j)) :
    let p := s.params
    let salt := s.readBytes (s.val c) p.saltBytes
    let bm := bitmapAt s (s.val d)
    let disclosure := disclosureField s.xof p (s.readBytes (s.val b) p.seedBytes) salt bm
    ∃ t u, exec (.stdisc a b c d e) s = .next t ∧ exec (.streb r a c d e) t = .next u ∧ u.str = true ∧
      ∀ i < p.T, Holds u (s.val r + i * p.seedBytes) ((rebuiltSeeds s.xof p disclosure salt bm).getD i []) := by
  intro p salt bm disclosure
  obtain ⟨t, disclose, -, kept, -, count, -, disclosed⟩ := (stdisc_follows wf a b c d e).completes (by
    simp only [List.forall_mem_cons]
    exact ⟨valid, fits.subset (by simp), bitmap, bound, nofun⟩)
  have registers : ∀ q ∈ [a, c, d, r], t.val q = s.val q := fun q listed =>
    kept.val_eq (mt List.mem_singleton.mp fun same => apart (same ▸ listed))
  simp only [List.forall_mem_cons] at registers
  obtain ⟨valA, valC, valD, valR, -⟩ := registers
  have length : disclosure.length = p.stMax * p.seedBytes := disclosureField_length salt (s.readBytes_length ..).le bound
  have bitmapBytes : t.readBytes (s.val d) p.T = s.readBytes (s.val d) p.T := kept.readBytes_eq bitmapApart
  have streb := exec_streb_of_count (r := r) (a := a) (c := c) (d := d) (e := e) (supplied := disclosure) (salt := salt)
    (bm := bm) (exec_keeps_wf wf disclose)
  rw [bitmapAt, kept.params, kept.xof_eq, valA, valC, valD, valR] at streb
  obtain ⟨u, rebuild, set, seeds⟩ := streb valid (kept.fits (fits.subset (by simp)))
    (by rw [← t.bitmapOk_readBytes_iff, kept.params, bitmapBytes]; exact (s.bitmapOk_readBytes_iff _).mpr bitmap)
    (length ▸ disclosed.readBytes_eq) (kept.readBytes_eq saltApart) (congrArg bitmapOf bitmapBytes) count bound
  exact ⟨t, u, disclose, rebuild, set, seeds⟩

/-- Settles O50: rebuilding undoes the disclosure, and STDISC leaves STREB its salt and its bitmap. -/
theorem rebuildRecoversDisclosedSeeds : Obligations.RebuildRecoversDisclosedSeeds := by
  constructor
  · intro X p root salt b _ size length _ i hi disclosed
    exact rebuiltSeeds_disclosureField X salt size length hi disclosed
  · intro s a b c d e r wf valid p field fits bitmap bound apart saltApart bitmapApart
    obtain ⟨t, u, disclose, rebuild, set, rebuilt⟩ :=
      exec_stdisc_streb wf valid fits bitmap bound apart saltApart bitmapApart
    obtain ⟨v, build, -, -, -, built⟩ := (stbuild_follows wf r b c).completes (by
      simp only [List.forall_mem_cons]
      exact ⟨valid, fits.subset (by simp [p, field]), nofun⟩)
    refine ⟨t, u, v, disclose, rebuild, build, set, fun i hi disclosed j hj => ?_⟩
    have rootLength : (s.readBytes (s.val b) p.seedBytes).length = p.seedBytes := s.readBytes_length ..
    have same := rebuiltSeeds_disclosureField s.xof (s.readBytes (s.val c) p.saltBytes) (bitmapAt_length s _) rootLength hi
      disclosed
    have seedLength := roundSeeds_getD_length (X := s.xof) (salt := s.readBytes (s.val c) p.saltBytes) valid rootLength hi
    have ofRebuild := rebuilt i hi
    rw [same] at ofRebuild
    exact (ofRebuild j (hj.trans_eq seedLength.symm)).trans (built i hi j (hj.trans_eq seedLength.symm)).symm

end Sys2Proof.Machine
end

section
/-! The proof set of a bitmap, digest arrays, the nodes and the root of a Merkle tree, the digests a proof holds, and the
root recomputed from them (46_merkle R350 to R358). Settles O49. -/

namespace Sys2Proof.Machine

/-! ### The proof set (46_merkle R351, R356) -/

/-- Known and full are each other's negation. -/
theorem isFull_not_of_isKnown {b : List Bool} {known : Nat → Bool} (isKnown : IsKnown b known) :
    IsFull b fun n => !known n where
  leaves i hi := by rw [isKnown.leaves i hi, Bool.not_not]
  inner n isInner := by rw [isKnown.inner n isInner, Bool.not_or]

/-- The rule of the known nodes determines them. -/
theorem knownNodes_getD {b : List Bool} {known : Nat → Bool} (isKnown : IsKnown b known) {n : Nat}
    (hn : n < 2 * b.length - 1) : (knownNodes b).getD n false = known n := by
  have inside : n < (fullNodes b).length := by
    rw [fullNodes, length_treeUp]
    omega
  rw [knownNodes_eq_map_not, getD_map_of_lt _ false false inside, fullNodes_getD (isFull_not_of_isKnown isKnown) hn,
    Bool.not_not]

theorem isKnown_knownNodes (b : List Bool) : IsKnown b fun n => (knownNodes b).getD n false where
  leaves i hi := by
    rw [← getD_map_of_lt (!·) false false hi, ← List.length_map (as := b) (!·)]
    exact treeUp_getD_leaf i
  inner _ isInner := treeUp_getD_inner (by rwa [List.length_map])

theorem mem_pset_iff {b : List Bool} {known : Nat → Bool} (isKnown : IsKnown b known) {n : Nat} :
    n ∈ pset b ↔ n < 2 * b.length - 1 ∧ known n = false ∧ (n = 0 ∨ known ((n - 1) / 2) = true) := by
  rw [pset_eq_dset, mem_dset_iff (isFull_not_of_isKnown isKnown), Bool.not_eq_true', Bool.not_eq_false']

theorem pset_pairwise (b : List Bool) : (pset b).Pairwise (· < ·) := pset_eq_dset b ▸ dset_pairwise b

theorem pset_nodup (b : List Bool) : (pset b).Nodup := pset_eq_dset b ▸ dset_nodup b

theorem pset_lt {b : List Bool} {n : Nat} (mem : n ∈ pset b) : n < 2 * b.length - 1 := dset_lt (pset_eq_dset b ▸ mem)

/-- Settles O49: a node is unknown exactly when it is full, so the proof set is the disclosure set, whose size is known. -/
theorem proofSetIsTheDisclosureSet : Obligations.ProofSetIsTheDisclosureSet := by
  intro b known nonempty isKnown
  refine ⟨fun n => mem_pset_iff isKnown, pset_pairwise b, pset_eq_dset b, ?_⟩
  have count := dset_length_add nonempty (isFull_not_of_isKnown isKnown)
  rw [pset_eq_dset]
  omega

theorem proofCount_of_tree {p : Params} (tree : p.flat = false) (b : List Bool) : proofCount p b = (pset b).length := by
  rw [proofCount, tree, if_neg Bool.false_ne_true]

theorem proofCount_of_flat {p : Params} (flat : p.flat = true) (b : List Bool) :
    proofCount p b = (markedRounds b).length := by
  rw [proofCount, flat, if_pos rfl, markedRounds_length]

/-! ### Digest arrays (20_memory R100) -/

theorem eq_map_range_of_getD {α : Type} {xs : List α} {dflt : α} {n : Nat} {g : Nat → α} (length : xs.length = n)
    (entries : ∀ i < n, xs.getD i dflt = g i) : xs = (List.range n).map g := by
  refine List.ext_getElem (by simpa using length) fun i hi _ => ?_
  rw [← List.getD_eq_getElem _ dflt hi, entries i (hi.trans_eq length), List.getElem_map, List.getElem_range]

@[simp] theorem digestArray_length (p : Params) (n : Nat) (bs : Bytes) : (digestArray p n bs).length = n := by
  simp [digestArray]

theorem digestArray_each_length {p : Params} {n : Nat} {bs : Bytes} (enough : n * p.digestBytes ≤ bs.length) :
    ∀ d ∈ digestArray p n bs, d.length = p.digestBytes :=
  List.forall_mem_map.mpr fun _ mem =>
    itemAt_length ((Nat.mul_le_mul_right _ (List.mem_range.mp mem)).trans enough)

/-- The T digests at `addr`. -/
def State.digestsAt (s : State) (addr : Nat) : List Bytes :=
  digestArray s.params s.params.T (s.readBytes addr (s.params.T * s.params.digestBytes))

@[simp] theorem State.digestsAt_length (s : State) (addr : Nat) : (s.digestsAt addr).length = s.params.T :=
  digestArray_length ..

theorem State.digestsAt_each_length (s : State) (addr : Nat) :
    ∀ d ∈ s.digestsAt addr, d.length = s.params.digestBytes :=
  digestArray_each_length (s.readBytes_length ..).ge

theorem State.digestsAt_getD (s : State) (addr : Nat) {i : Nat} (hi : i < s.params.T) :
    (s.digestsAt addr).getD i [] = s.readBytes (addr + i * s.params.digestBytes) s.params.digestBytes := by
  rw [State.digestsAt, digestArray, getD_map_range_of_lt _ _ hi, s.itemAt_readBytes _ (Nat.mul_le_mul_right _ hi)]

/-! ### The nodes and the root (46_merkle R350, R352, R355) -/

section Nodes

variable {X : Bytes → Nat → Byte} {p : Params} {leaves : List Bytes}

theorem isMerkleTree_merkleNodes (X : Bytes → Nat → Byte) (size : leaves.length = p.T) :
    IsMerkleTree X p (fun i => leaves.getD i []) fun n => (merkleNodes X p leaves).getD n [] where
  leaves i _ := size ▸ treeUp_getD_leaf i
  inner _ inner := treeUp_getD_inner (size ▸ inner)

/-- The leaves and the rule of the inner nodes determine the nodes. -/
theorem merkleNodes_getD {leaf node : Nat → Bytes} (tree : IsMerkleTree X p leaf node) (size : leaves.length = p.T)
    (same : ∀ i < p.T, leaves.getD i [] = leaf i) {n : Nat} (hn : n < 2 * p.T - 1) :
    (merkleNodes X p leaves).getD n [] = node n := by
  refine treeUp_getD_eq (fun i hi => ?_) (fun m inner => ?_) n (by omega)
  · rw [size] at hi ⊢
    rw [tree.leaves i hi, same i hi]
  · exact tree.inner m (size ▸ inner)

theorem merkleNodes_getD_length (each : ∀ d ∈ leaves, d.length = p.digestBytes) {n : Nat}
    (hn : n < 2 * leaves.length - 1) : ((merkleNodes X p leaves).getD n []).length = p.digestBytes := by
  by_cases isInner : n < leaves.length - 1
  · rw [merkleNodes, treeUp_getD_inner isInner, hashOf_length]
  · obtain ⟨i, rfl⟩ := Nat.exists_eq_add_of_le (Nat.le_of_not_lt isInner)
    rw [merkleNodes, treeUp_getD_leaf]
    exact each _ (getD_mem (by omega) [])

/-- A block of the leaves is a run of them. -/
theorem flatBlock_map_range (leaf : Nat → Bytes) {T k : Nat} (hk : k < 4) :
    flatBlock T ((List.range T).map leaf) k =
      ((List.range' (k * T / 4) ((k + 1) * T / 4 - k * T / 4)).map leaf).flatten := by
  have le : (k + 1) * T / 4 ≤ T := Nat.div_le_of_le_mul (Nat.mul_le_mul_right T hk)
  rw [flatBlock, ← List.map_drop, ← List.map_take, List.range_eq_range', List.drop_range',
    List.take_range'_of_length_ge (Nat.sub_le_sub_right le _), Nat.zero_add, Nat.mul_one]

theorem flatRoot_map_range (X : Bytes → Nat → Byte) (p : Params) (leaf : Nat → Bytes) :
    flatRoot X p ((List.range p.T).map leaf) = flatRootOf X p leaf := by
  rw [flatRoot, flatRootOf]
  refine congrArg (fun blocks : List Bytes => hashOf X p blocks.flatten) (List.map_congr_left fun k hk => ?_)
  rw [flatBlock_map_range leaf (List.mem_range.mp hk)]

theorem merkleRoot_of_tree (mode : p.flat = false) : merkleRoot X p leaves = (merkleNodes X p leaves).getD 0 [] := by
  rw [merkleRoot, mode, if_neg Bool.false_ne_true]

theorem merkleRoot_of_flat (mode : p.flat = true) {leaf : Nat → Bytes} (size : leaves.length = p.T)
    (same : ∀ i < p.T, leaves.getD i [] = leaf i) : merkleRoot X p leaves = flatRootOf X p leaf := by
  rw [merkleRoot, mode, if_pos rfl, eq_map_range_of_getD size same, flatRoot_map_range]

theorem merkleRoot_length (nonempty : 1 ≤ leaves.length) (each : ∀ d ∈ leaves, d.length = p.digestBytes) :
    (merkleRoot X p leaves).length = p.digestBytes := by
  unfold merkleRoot
  split
  · exact flatRoot_length ..
  · exact merkleNodes_getD_length each (by omega)

end Nodes

/-! ### The proof digests (46_merkle R353, R355) -/

section Proof

variable {X : Bytes → Nat → Byte} {p : Params} {leaves : List Bytes} {b : List Bool}

theorem proofDigests_getD_of_tree (mode : p.flat = false) {k : Nat} (hk : k < (pset b).length) :
    (proofDigests X p leaves b).getD k [] = (merkleNodes X p leaves).getD ((pset b).getD k 0) [] := by
  rw [proofDigests, mode, if_neg Bool.false_ne_true, getD_map_of_lt _ 0 _ hk]

theorem proofDigests_getD_of_flat (mode : p.flat = true) {k : Nat} (hk : k < (markedRounds b).length) :
    (proofDigests X p leaves b).getD k [] = leaves.getD ((markedRounds b).getD k 0) [] := by
  rw [proofDigests, mode, if_pos rfl, getD_map_of_lt _ 0 _ hk]

theorem markedRounds_lt {i : Nat} (mem : i ∈ markedRounds b) : i < b.length :=
  List.mem_range.mp (List.mem_of_mem_filter mem)

theorem proofDigests_each_length (size : b.length = leaves.length) (each : ∀ d ∈ leaves, d.length = p.digestBytes) :
    ∀ d ∈ proofDigests X p leaves b, d.length = p.digestBytes := by
  unfold proofDigests
  split
  · exact List.forall_mem_map.mpr fun i mem => each _ (getD_mem (size ▸ markedRounds_lt mem) [])
  · exact List.forall_mem_map.mpr fun n mem => merkleNodes_getD_length each (size ▸ pset_lt mem)

/-- The k-th item of a proof field is the k-th proof digest. -/
theorem itemAt_proofField (size : b.length = leaves.length) (each : ∀ d ∈ leaves, d.length = p.digestBytes) {k : Nat}
    (hk : k < proofCount p b) :
    itemAt p.digestBytes (proofField X p leaves b) k = (proofDigests X p leaves b).getD k [] :=
  itemAt_flatten_append (proofDigests_each_length size each) _ (by rwa [proofDigests_length])

end Proof

/-! ### The recomputed nodes and root (46_merkle R354, R355) -/

/-- The slots of the known leaves and the digests supplied for the proof set are `node`'s, and every known inner node is
the hash of its children: what MTRECOMP is given and what it may compute. -/
structure Proves (X : Bytes → Nat → Byte) (p : Params) (slots : List Bytes) (proof : Bytes) (b : List Bool)
    (known : Nat → Bool) (node : Nat → Bytes) : Prop where
  leaves : ∀ i < p.T, b.getD i false = false → node (p.T - 1 + i) = slots.getD i []
  given : ∀ k < (pset b).length, node ((pset b).getD k 0) = itemAt p.digestBytes proof k
  inner : ∀ n < p.T - 1, known n = true → node n = hashOf X p (node (2 * n + 1) ++ node (2 * n + 2))

/-- The leaves MTRECOMP starts from: the slots of the known ones, the digests supplied for the unknown ones. -/
def recomputedLeaves (p : Params) (slots : List Bytes) (proof : Bytes) (b : List Bool) : List Bytes :=
  (List.range p.T).map fun i =>
    if b.getD i false then (suppliedFor p.digestBytes proof (pset b) (p.T - 1 + i)).getD [] else slots.getD i []

/-- What MTRECOMP makes of the children of an inner node: the node's supplied digest, or their hash when it is known. -/
def recomputedInner (X : Bytes → Nat → Byte) (p : Params) (proof : Bytes) (b : List Bool) (n : Nat) (l r : Bytes) :
    Bytes :=
  (suppliedFor p.digestBytes proof (pset b) n).getD (if (knownNodes b).getD n false then hashOf X p (l ++ r) else [])

section Recomputed

variable {X : Bytes → Nat → Byte} {p : Params} {slots : List Bytes} {proof : Bytes} {b : List Bool}
  {known : Nat → Bool} {node : Nat → Bytes}

theorem recomputedLeaves_length : (recomputedLeaves p slots proof b).length = p.T := by simp [recomputedLeaves]

theorem recomputedNodes_eq_treeUp : recomputedNodes X p slots proof b =
    treeUp [] (recomputedInner X p proof b) (recomputedLeaves p slots proof b) := rfl

theorem recomputedNodes_getD_leaf {i : Nat} (hi : i < p.T) :
    (recomputedNodes X p slots proof b).getD (p.T - 1 + i) [] =
      if b.getD i false then (suppliedFor p.digestBytes proof (pset b) (p.T - 1 + i)).getD []
      else slots.getD i [] := by
  have leaf := treeUp_getD_leaf (dflt := []) (f := recomputedInner X p proof b)
    (leaves := recomputedLeaves p slots proof b) i
  rw [recomputedLeaves_length, recomputedLeaves, getD_map_range_of_lt _ _ hi] at leaf
  exact leaf

theorem recomputedNodes_getD_inner {n : Nat} (inner : n < p.T - 1) :
    (recomputedNodes X p slots proof b).getD n [] = (suppliedFor p.digestBytes proof (pset b) n).getD
      (if (knownNodes b).getD n false then
        hashOf X p ((recomputedNodes X p slots proof b).getD (2 * n + 1) [] ++
          (recomputedNodes X p slots proof b).getD (2 * n + 2) [])
      else []) := by
  rw [recomputedNodes_eq_treeUp, treeUp_getD_inner (by rwa [recomputedLeaves_length]), recomputedInner]

/-- Of the nodes with a known parent, and the root, an unknown one is given its digest and a known one is not. -/
theorem Proves.suppliedFor_eq (proves : Proves X p slots proof b known node) (isKnown : IsKnown b known) {n : Nat}
    (inside : n < 2 * b.length - 1) (below : n = 0 ∨ known ((n - 1) / 2) = true) :
    suppliedFor p.digestBytes proof (pset b) n = if known n then none else some (node n) := by
  split
  case isTrue isKnownNode =>
    refine suppliedFor_of_not_mem (fun mem => ?_) _ _
    obtain ⟨-, unknown, -⟩ := (mem_pset_iff isKnown).mp mem
    exact Bool.false_ne_true (unknown.symm.trans isKnownNode)
  case isFalse unknown =>
    obtain ⟨k, hk, rfl⟩ := List.getElem_of_mem
      ((mem_pset_iff isKnown).mpr ⟨inside, Bool.eq_false_iff.mpr unknown, below⟩)
    have here := List.getD_eq_getElem (pset b) 0 hk
    rw [suppliedFor_of_getD (pset_nodup b) _ _ hk here, ← proves.given k hk, here]

/-- Recomputing gives its digest to every node with a known parent, and to the root. -/
theorem Proves.recomputedNodes_getD (proves : Proves X p slots proof b known node) (isKnown : IsKnown b known)
    (size : b.length = p.T) (n : Nat) (inside : n < 2 * p.T - 1) (below : n = 0 ∨ known ((n - 1) / 2) = true) :
    (recomputedNodes X p slots proof b).getD n [] = node n := by
  have supplied := proves.suppliedFor_eq isKnown (size ▸ inside) below
  by_cases isInner : n < p.T - 1
  · rw [recomputedNodes_getD_inner isInner, supplied, knownNodes_getD isKnown (size ▸ inside)]
    cases here : known n with
    | false => rfl
    | true =>
      have left := proves.recomputedNodes_getD isKnown size (2 * n + 1) (by omega)
        (.inr (by rwa [show (2 * n + 1 - 1) / 2 = n by omega]))
      have right := proves.recomputedNodes_getD isKnown size (2 * n + 2) (by omega)
        (.inr (by rwa [show (2 * n + 2 - 1) / 2 = n by omega]))
      rw [if_pos rfl, if_pos rfl, Option.getD_none, left, right, proves.inner n isInner here]
  · obtain ⟨i, rfl⟩ := Nat.exists_eq_add_of_le (Nat.le_of_not_lt isInner)
    have hi : i < p.T := by omega
    have leaf := isKnown.leaves i (size ▸ hi)
    rw [size] at leaf
    rw [recomputedNodes_getD_leaf hi, supplied, leaf]
    cases unknown : b.getD i false with
    | true => rfl
    | false => exact (proves.leaves i hi unknown).symm
termination_by 2 * p.T - n

theorem Proves.recomputedRoot_eq (proves : Proves X p slots proof b known node) (isKnown : IsKnown b known)
    (size : b.length = p.T) (nonempty : 1 ≤ p.T) (mode : p.flat = false) :
    recomputedRoot X p slots proof b = node 0 := by
  rw [recomputedRoot, mode, if_neg Bool.false_ne_true,
    proves.recomputedNodes_getD isKnown size 0 (by omega) (.inl rfl)]

/-- In flat mode the leaves are those of the known slots and those supplied for the marked rounds. -/
theorem flatLeaves_eq {leaf : Nat → Bytes} (known : ∀ i < p.T, b.getD i false = false → leaf i = slots.getD i [])
    (given : ∀ k < (markedRounds b).length, leaf ((markedRounds b).getD k 0) = itemAt p.digestBytes proof k) :
    flatLeaves p slots proof b = (List.range p.T).map leaf := by
  refine List.map_congr_left fun i mem => ?_
  split
  case isTrue marked =>
    obtain ⟨k, hk, rfl⟩ := List.getElem_of_mem (mem_markedRounds_iff.mpr marked)
    have here := List.getD_eq_getElem (markedRounds b) 0 hk
    rw [suppliedFor_of_getD (markedRounds_nodup b) _ _ hk here, Option.getD_some, ← given k hk, here]
  case isFalse unmarked => exact (known i (List.mem_range.mp mem) (Bool.eq_false_iff.mpr unmarked)).symm

theorem recomputedRoot_of_flat (mode : p.flat = true) {leaf : Nat → Bytes}
    (known : ∀ i < p.T, b.getD i false = false → leaf i = slots.getD i [])
    (given : ∀ k < (markedRounds b).length, leaf ((markedRounds b).getD k 0) = itemAt p.digestBytes proof k) :
    recomputedRoot X p slots proof b = flatRootOf X p leaf := by
  rw [recomputedRoot, mode, if_pos rfl, flatLeaves_eq known given, flatRoot_map_range]

/-- With digests enough, a recomputed root has DIGEST_BYTES bytes: it is a hash, or the digest supplied for node 0. -/
theorem recomputedRoot_length (two : 2 ≤ p.T) (size : b.length = p.T)
    (enough : proofCount p b * p.digestBytes ≤ proof.length) :
    (recomputedRoot X p slots proof b).length = p.digestBytes := by
  unfold recomputedRoot
  split
  case isTrue => exact flatRoot_length ..
  case isFalse tree =>
    rw [proofCount_of_tree (Bool.eq_false_iff.mpr tree)] at enough
    rw [recomputedNodes_getD_inner (by omega)]
    cases given : suppliedFor p.digestBytes proof (pset b) 0 with
    | some item => exact suppliedFor_length enough given
    | none =>
      have isKnownRoot : (knownNodes b).getD 0 false = true := by
        by_contra unknown
        have mem := (mem_pset_iff (isKnown_knownNodes b)).mpr ⟨by omega, Bool.eq_false_iff.mpr unknown, .inl rfl⟩
        obtain ⟨k, hk, here⟩ := List.getElem_of_mem mem
        rw [suppliedFor_of_getD (dflt := 0) (pset_nodup b) _ _ hk ((List.getD_eq_getElem _ _ hk).trans here)] at given
        cases given
      rw [Option.getD_none, isKnownRoot, if_pos rfl, hashOf_length]

end Recomputed

/-! ### Recomputing undoes proving (46_merkle R358) -/

section RoundTrip

variable {X : Bytes → Nat → Byte} {p : Params} {leaves slots : List Bytes} {b : List Bool}

/-- A proof supplies the nodes of the tree. -/
theorem proves_proofField (mode : p.flat = false) (length : b.length = p.T) (size : leaves.length = p.T)
    (each : ∀ d ∈ leaves, d.length = p.digestBytes)
    (same : ∀ i < p.T, b.getD i false = false → slots.getD i [] = leaves.getD i []) (known : Nat → Bool) :
    Proves X p slots (proofField X p leaves b) b known fun n => (merkleNodes X p leaves).getD n [] where
  leaves i hi isKnown := by rw [same i hi isKnown, (isMerkleTree_merkleNodes X size).leaves i hi]
  given k hk := by
    rw [itemAt_proofField (length.trans size.symm) each (by rwa [proofCount_of_tree mode]),
      proofDigests_getD_of_tree mode hk]
  inner n isInner _ := (isMerkleTree_merkleNodes X size).inner n isInner

/-- The root recomputed from a proof and the known leaves is the root of all the leaves. -/
theorem recomputedRoot_proofField (nonempty : 1 ≤ p.T) (length : b.length = p.T) (size : leaves.length = p.T)
    (each : ∀ d ∈ leaves, d.length = p.digestBytes)
    (same : ∀ i < p.T, b.getD i false = false → slots.getD i [] = leaves.getD i []) :
    recomputedRoot X p slots (proofField X p leaves b) b = merkleRoot X p leaves := by
  cases mode : p.flat with
  | false =>
    rw [(proves_proofField mode length size each same _).recomputedRoot_eq (isKnown_knownNodes b) length nonempty mode,
      merkleRoot_of_tree mode]
  | true =>
    rw [merkleRoot_of_flat mode size fun _ _ => rfl]
    refine recomputedRoot_of_flat mode (fun i hi unmarked => (same i hi unmarked).symm) fun k hk => ?_
    rw [itemAt_proofField (length.trans size.symm) each (by rwa [proofCount_of_flat mode]),
      proofDigests_getD_of_flat mode hk]

end RoundTrip

end Sys2Proof.Machine
end

section
/-! MTROOT, MTPROOF and MTRECOMP: their rules in the model's functions, and in those of the spec (46_merkle R352 to R355).
Settles O51 and O52. -/

namespace Sys2Proof.Machine

theorem Params.two_le_T {p : Params} (valid : p.valid = true) : 2 ≤ p.T := by
  obtain ⟨-, -, -, -, -, -, -, -, -, -, -, -, -, -, -, hT, -⟩ := Params.valid_inBounds valid
  exact hT

/-! ### The rules in the model's functions (46_merkle R352 to R354) -/

section Commands

variable {s : State} (wf : Memory.wf s.buf)
include wf

theorem mtroot_follows (a b : Reg) :
    let p := s.params
    Follows (.mtroot a b) s
      [(.param, p.valid = true), (.addr, Fits s [(s.val a, p.digestBytes), (s.val b, p.T * p.digestBytes)])]
      { regions := [(s.val a, p.digestBytes)], xof := true }
      (fun t => ContextReset t ∧ 2 ≤ p.T ∧ Holds t (s.val a) (merkleRoot s.xof p (s.digestsAt (s.val b)))) := by
  intro p
  refine follows_cons (execMtroot.eq_def a b s) Iff.rfl fun valid run =>
    follows_cons run (s.fitsAll_iff _) fun _ run => ?_
  have two := Params.two_le_T valid
  have nonempty : 1 ≤ (s.digestsAt (s.val b)).length :=
    (Nat.le_of_succ_le two).trans_eq (s.digestsAt_length _).symm
  exact completes_of_runCommand_writeBytes_context wf (merkleRoot_length nonempty (s.digestsAt_each_length _)) run
    firstFault_nil fun t holds phase input pos => ⟨⟨phase, input, pos⟩, two, holds⟩

theorem mtproof_follows (a b d e : Reg) :
    let p := s.params
    let bm := bitmapAt s (s.val d)
    Follows (.mtproof a b d e) s
      [(.param, p.valid = true),
        (.addr, Fits s [(s.val a, p.mtMax * p.digestBytes), (s.val b, p.T * p.digestBytes), (s.val d, p.T)]),
        (.range, BitmapAt s (s.val d)), (.bound, proofCount p bm ≤ p.mtMax)]
      { regs := [e], regions := [(s.val a, p.mtMax * p.digestBytes)], xof := true }
      (fun t => ContextReset t ∧ t.val e = proofCount p bm ∧
        Holds t (s.val a) (proofField s.xof p (s.digestsAt (s.val b)) bm)) := by
  intro p bm
  refine follows_cons (execMtproof.eq_def a b d e s) Iff.rfl fun valid run =>
    follows_cons run (s.fitsAll_iff _) fun _ run => follows_cons run (s.bitmapOk_readBytes_iff _) fun _ run =>
      follows_cons run decide_eq_true_iff fun bound run => ?_
  let field := proofField s.xof p (s.digestsAt (s.val b)) bm
  have length : field.length = p.mtMax * p.digestBytes :=
    proofField_length (fun d mem => (s.digestsAt_each_length _ d mem).le) bound
  have small : proofCount p bm < 2 ^ 32 := bound.trans_lt p.mtmax.isLt
  have kept := ((s.writeBytes_kept (s.val a) field).setX e (proofCount p bm)).context .idle [] 0
  rw [length] at kept
  exact completes_of_runCommand run firstFault_nil { EffectShape.writeBytes s _ _ with } kept
    ⟨⟨rfl, rfl, rfl⟩, State.val_setX_self _ e small, fun _ hj => State.byteAt_writeBytes_inside wf (s.val a) _ hj⟩

theorem mtrecomp_follows (a b c d e : Reg) :
    let p := s.params
    let proof := s.readBytes (s.val c) (p.mtMax * p.digestBytes)
    let bm := bitmapAt s (s.val d)
    Follows (.mtrecomp a b c d e) s
      [(.param, p.valid = true),
        (.addr, Fits s [(s.val a, p.digestBytes), (s.val b, p.T * p.digestBytes), (s.val c, p.mtMax * p.digestBytes),
          (s.val d, p.T)]),
        (.range, BitmapAt s (s.val d))]
      { regions := [(s.val a, p.digestBytes)], flags := [3], xof := true }
      (fun t => ContextReset t ∧ (t.str = true ↔ s.val e = proofCount p bm ∧ proofCount p bm ≤ p.mtMax) ∧
        (t.str = false → ∀ x, t.byteAt x = s.byteAt x) ∧ 2 ≤ p.T ∧
        (t.str = true → Holds t (s.val a) (recomputedRoot s.xof p (s.digestsAt (s.val b)) proof bm))) := by
  intro p proof bm
  refine follows_cons (execMtrecomp.eq_def a b c d e s) Iff.rfl fun valid run =>
    follows_cons run (s.fitsAll_iff _) fun _ run => follows_cons run (s.bitmapOk_readBytes_iff _) fun _ run => ?_
  have two := Params.two_le_T valid
  have agrees : (decide (s.val e = proofCount p bm) && decide (proofCount p bm ≤ p.mtMax)) = true ↔
      s.val e = proofCount p bm ∧ proofCount p bm ≤ p.mtMax := by
    rw [Bool.and_eq_true, decide_eq_true_iff, decide_eq_true_iff]
  have length : proofCount p bm ≤ p.mtMax →
      (recomputedRoot s.xof p (s.digestsAt (s.val b)) proof bm).length = p.digestBytes := fun bound =>
    recomputedRoot_length two (bitmapAt_length ..) (by rw [State.readBytes_length]; exact Nat.mul_le_mul_right _ bound)
  have completes := completes_of_runCommand_writeBytes_setStr wf (fun ok => length (agrees.mp ok).2) run firstFault_nil
  refine completes.weaken fun t ⟨reset, str, unwritten, written⟩ => ?_
  exact ⟨reset, (Bool.eq_iff_iff.mp str).trans agrees, fun clear => unwritten (str.symm.trans clear), two,
    fun set => written (str.symm.trans set)⟩

end Commands

/-- Settles O51: the root and the proof digests are those of the one tree that R350 describes, and the field ends in
zeros. -/
theorem merkleRootAndProof : Obligations.MerkleRootAndProof := by
  intro s a b d e wf p leaf bm count
  have leaves : ∀ i < p.T, (s.digestsAt (s.val b)).getD i [] = leaf i := fun i => s.digestsAt_getD (s.val b)
  have number : (s.digestsAt (s.val b)).length = p.T := s.digestsAt_length _
  have size : bm.length = p.T := bitmapAt_length ..
  refine ⟨⟨wordOf_of_row rfl (by decide), (mtroot_follows wf a b).weaken ?root⟩, wordOf_of_row rfl (by decide),
    (mtproof_follows wf a b d e).weaken ?proof⟩
  case root =>
    rintro t ⟨reset, two, root⟩
    have inside : 0 < 2 * p.T - 1 := by
      have atLeast : 2 ≤ p.T := two
      omega
    refine ⟨reset, fun mode node tree => ?_, fun mode => ?_⟩
    · rwa [merkleRoot_of_tree mode, merkleNodes_getD tree number leaves inside] at root
    · rwa [merkleRoot_of_flat mode number leaves] at root
  case proof =>
    rintro t ⟨reset, claimed, field⟩
    have each : ∀ x ∈ proofDigests s.xof p (s.digestsAt (s.val b)) bm, x.length = p.digestBytes :=
      proofDigests_each_length (size.trans number.symm) (s.digestsAt_each_length _)
    have digests : ∀ k < proofCount p bm, Holds t (s.val a + k * p.digestBytes)
        ((proofDigests s.xof p (s.digestsAt (s.val b)) bm).getD k []) :=
      fun k hk => field.getD_flatten_append each (by rwa [proofDigests_length])
    refine ⟨reset, claimed, fun mode node tree k hk => ?_, fun mode k hk => ?_, fun j past inside => ?_⟩
    · have holds := digests k hk
      have hk : k < (pset bm).length := by rwa [← proofCount_of_tree mode]
      have below := pset_lt (getD_mem hk 0)
      rwa [proofDigests_getD_of_tree mode hk, merkleNodes_getD tree number leaves (by omega)] at holds
    · have holds := digests k hk
      have hk : k < (markedRounds bm).length := by rwa [← proofCount_of_flat mode]
      have below := markedRounds_lt (getD_mem hk 0)
      rwa [proofDigests_getD_of_flat mode hk, leaves _ (by omega)] at holds
    · refine field.zeroFill_tail ?_ inside
      rw [flatten_length each, proofDigests_length]
      exact past

/-- Settles O52: the root that the known slots and the supplied digests determine is the one MTRECOMP writes. -/
theorem merkleRootRecomputation : Obligations.MerkleRootRecomputation := by
  intro s a b c d e wf p slot item bm count
  have slots : ∀ i < p.T, (s.digestsAt (s.val b)).getD i [] = slot i := fun i => s.digestsAt_getD (s.val b)
  have size : bm.length = p.T := bitmapAt_length ..
  refine ⟨wordOf_of_row rfl (by decide), (mtrecomp_follows wf a b c d e).weaken ?_⟩
  rintro t ⟨reset, agrees, unwritten, two, root⟩
  have items : t.str = true → ∀ k < proofCount p bm,
      itemAt p.digestBytes (s.readBytes (s.val c) (p.mtMax * p.digestBytes)) k = item k := fun set k hk =>
    s.itemAt_readBytes _ (Nat.mul_le_mul_right _ (hk.trans_le (agrees.mp set).2))
  refine ⟨reset, agrees, unwritten, fun set mode node known isKnown leaves given inner => ?tree,
    fun set mode leaf known given => ?flat⟩
  case tree =>
    have proves : Proves s.xof p (s.digestsAt (s.val b)) (s.readBytes (s.val c) (p.mtMax * p.digestBytes)) bm known
        node :=
      { leaves := fun i hi unmarked => (leaves i hi unmarked).trans (slots i hi).symm
        given := fun k hk => by
          have hk : k < proofCount p bm := by rwa [proofCount_of_tree mode]
          rw [items set k hk, given k hk]
        inner := inner }
    have holds := root set
    rwa [proves.recomputedRoot_eq isKnown size (Nat.le_of_succ_le two) mode] at holds
  case flat =>
    have holds := root set
    rwa [recomputedRoot_of_flat mode (fun i hi unmarked => (known i hi unmarked).trans (slots i hi).symm)
      fun k hk => by
        have hk : k < proofCount p bm := by rwa [proofCount_of_flat mode]
        rw [items set k hk, given k hk]] at holds

end Sys2Proof.Machine
end

section
/-! MTRECOMP on the output of MTPROOF beside MTROOT (46_merkle R358). Settles O53. -/

namespace Sys2Proof.Machine

/-- MTRECOMP, its tests passed and the count the one its bitmap requires, sets STR and writes the recomputed root. -/
theorem exec_mtrecomp_of_count {t : State} (wf : Memory.wf t.buf) {r b a d e : Reg} {proof : Bytes} {bm : List Bool}
    (valid : t.params.valid = true)
    (fits : Fits t [(t.val r, t.params.digestBytes), (t.val b, t.params.T * t.params.digestBytes),
      (t.val a, t.params.mtMax * t.params.digestBytes), (t.val d, t.params.T)])
    (bitmap : BitmapAt t (t.val d))
    (readProof : t.readBytes (t.val a) (t.params.mtMax * t.params.digestBytes) = proof)
    (readBitmap : bitmapAt t (t.val d) = bm) (claimed : t.val e = proofCount t.params bm)
    (bound : proofCount t.params bm ≤ t.params.mtMax) :
    ∃ u, exec (.mtrecomp r b a d e) t = .next u ∧ u.str = true ∧
      Holds u (t.val r) (recomputedRoot t.xof t.params (t.digestsAt (t.val b)) proof bm) := by
  subst readProof readBitmap
  obtain ⟨u, run, -, -, -, agrees, -, -, root⟩ := (mtrecomp_follows wf r b a d e).completes (by
    simp only [List.forall_mem_cons]
    exact ⟨valid, fits, bitmap, nofun⟩)
  have set := agrees.mpr ⟨claimed, bound⟩
  exact ⟨u, run, set, root set⟩

/-- MTRECOMP on what MTPROOF has just written, the proof apart from the known leaves and the bitmap, writes the root of
the leaves. -/
theorem exec_mtproof_mtrecomp {s : State} (wf : Memory.wf s.buf) (valid : s.params.valid = true) {a b d e r : Reg}
    (fits : Fits s [(s.val a, s.params.mtMax * s.params.digestBytes), (s.val b, s.params.T * s.params.digestBytes),
      (s.val d, s.params.T), (s.val r, s.params.digestBytes)])
    (bitmap : BitmapAt s (s.val d)) (bound : proofCount s.params (bitmapAt s (s.val d)) ≤ s.params.mtMax)
    (apart : e ∉ [a, b, d, r])
    (bitmapApart : ∀ j < s.params.T, Outside [(s.val a, s.params.mtMax * s.params.digestBytes)] (s.val d + j))
    (leavesApart : ∀ i < s.params.T, (bitmapAt s (s.val d)).getD i false = false → ∀ j < s.params.digestBytes,
      Outside [(s.val a, s.params.mtMax * s.params.digestBytes)] (s.val b + i * s.params.digestBytes + j)) :
    ∃ t u, exec (.mtproof a b d e) s = .next t ∧ exec (.mtrecomp r b a d e) t = .next u ∧ u.str = true ∧
      Holds u (s.val r) (merkleRoot s.xof s.params (s.digestsAt (s.val b))) := by
  obtain ⟨t, prove, -, kept, -, count, field⟩ := (mtproof_follows wf a b d e).completes (by
    simp only [List.forall_mem_cons]
    exact ⟨valid, fits.subset (by simp), bitmap, bound, nofun⟩)
  have registers : ∀ q ∈ [a, b, d, r], t.val q = s.val q := fun q listed =>
    kept.val_eq (mt List.mem_singleton.mp fun same => apart (same ▸ listed))
  simp only [List.forall_mem_cons] at registers
  obtain ⟨valA, valB, valD, valR, -⟩ := registers
  let proof := proofField s.xof s.params (s.digestsAt (s.val b)) (bitmapAt s (s.val d))
  have length : proof.length = s.params.mtMax * s.params.digestBytes :=
    proofField_length (fun x mem => (s.digestsAt_each_length _ x mem).le) bound
  have bitmapBytes : t.readBytes (s.val d) s.params.T = s.readBytes (s.val d) s.params.T :=
    kept.readBytes_eq bitmapApart
  have recomp := exec_mtrecomp_of_count (r := r) (b := b) (a := a) (d := d) (e := e) (proof := proof)
    (bm := bitmapAt s (s.val d)) (exec_keeps_wf wf prove)
  rw [bitmapAt, kept.params, kept.xof_eq, valA, valB, valD, valR] at recomp
  obtain ⟨u, recompute, set, root⟩ := recomp valid (kept.fits (fits.subset (by simp)))
    (by rw [← t.bitmapOk_readBytes_iff, kept.params, bitmapBytes]; exact (s.bitmapOk_readBytes_iff _).mpr bitmap)
    (length ▸ field.readBytes_eq) (congrArg bitmapOf bitmapBytes) count bound
  have slots : ∀ i < s.params.T, (bitmapAt s (s.val d)).getD i false = false →
      (t.digestsAt (s.val b)).getD i [] = (s.digestsAt (s.val b)).getD i [] := fun i hi known => by
    rw [t.digestsAt_getD _ (by rwa [kept.params]), s.digestsAt_getD _ hi, kept.params,
      kept.readBytes_eq (leavesApart i hi known)]
  have two := Params.two_le_T valid
  rw [recomputedRoot_proofField (Nat.le_of_succ_le two) (bitmapAt_length ..) (s.digestsAt_length _)
    (s.digestsAt_each_length _) slots] at root
  exact ⟨t, u, prove, recompute, set, root⟩

/-- Settles O53: recomputing undoes the proof, and MTPROOF leaves MTRECOMP its bitmap and the known leaves. -/
theorem recomputedRootIsTheRoot : Obligations.RecomputedRootIsTheRoot := by
  constructor
  · intro X p leaves slots b two length size each _ same
    exact recomputedRoot_proofField (Nat.le_of_succ_le two) length size each same
  · intro s a b d e r wf valid p field bm fits bitmap bound apart bitmapApart leavesApart
    obtain ⟨t, u, prove, recompute, set, recomputed⟩ :=
      exec_mtproof_mtrecomp wf valid fits bitmap bound apart bitmapApart leavesApart
    obtain ⟨v, build, -, -, -, two, built⟩ := (mtroot_follows wf r b).completes (by
      simp only [List.forall_mem_cons]
      exact ⟨valid, fits.subset (by simp [p, field]), nofun⟩)
    refine ⟨t, u, v, prove, recompute, build, set, fun j hj => ?_⟩
    have nonempty : 1 ≤ (s.digestsAt (s.val b)).length :=
      (Nat.le_of_succ_le two).trans_eq (s.digestsAt_length _).symm
    have inside := hj.trans_eq (merkleRoot_length (X := s.xof) nonempty (s.digestsAt_each_length _)).symm
    exact (recomputed j inside).trans (built j inside).symm

end Sys2Proof.Machine
end

section
/-! Reset (70_reset R500, R501), the machine never stopping and the faults of commands (60_exceptions R450, R452, R454), and
the host's writes of STATUS and CTRL (10_state R44, R45; 60_exceptions R455, R456). Settles O1, O2, O12, O9, O13, O14, O17
and O18. -/

namespace Sys2Proof.Machine

/-! ### The state after a reset (70_reset R500, R501) -/

theorem State.resetBlock_atReset (s : State) : AtReset s.resetBlock where
  regs r := by simp [State.getX, State.reset]
  ctrl := rfl
  status := (by decide : setBit 0 0 false = 0)
  errcode := rfl
  errinfo := rfl
  flags := rfl
  vfail := rfl
  pseq := rfl
  params := rfl
  context := ⟨rfl, rfl, rfl⟩
  bytes _ := rfl
  idle := rfl

theorem Params.at_reset (k : Nat) : Params.reset.at k = 0 := by
  unfold Params.at
  split <;> rfl

theorem Params.reset_invalid : Params.reset.valid = false := by decide

section AtReset

variable {t : State} (atReset : AtReset t)
include atReset

theorem AtReset.derivedSize (n : Nat) : t.derivedSize n = 0 :=
  State.derivedSize_invalid n (by rw [atReset.params, Params.reset_invalid])

/-- Every offset of REG reads 0 after a reset, one test of the offset at a time (10_state R77). -/
theorem AtReset.regRead (off : Nat) : t.regRead off = 0 := by
  have test : ∀ {c : Prop} [Decidable c] {v w : Word}, v = 0 → w = 0 → (if c then v else w) = 0 := fun hv hw =>
    iteInduction (motive := (· = 0)) (fun _ => hv) fun _ => hw
  unfold State.regRead
  refine test rfl (test atReset.ctrl (test atReset.status (test atReset.errcode (test atReset.errinfo
    (test atReset.flags (test atReset.vfail (test (State.pseqRead_of_pseq_zero atReset.pseq) (test ?context
      (test (atReset.regs _) (test ?param (test (atReset.derivedSize _) (test (atReset.derivedSize _)
        (test (atReset.derivedSize _) rfl)))))))))))))
  case context => rw [atReset.context.1]; rfl
  case param => rw [atReset.params, Params.at_reset]

end AtReset

/-- Settles O1: the state after reset is what a reset of the block leaves, and there every register reads 0. -/
theorem resetLeavesEverythingZero : Obligations.ResetLeavesEverythingZero :=
  have atReset : AtReset State.reset := State.reset.resetBlock_atReset
  ⟨atReset, atReset.regRead, Params.reset_invalid, rfl⟩

/-- A reset, of either kind, is an access that resets the block whether a command runs or not (70_reset R500). -/
theorem hostStep_reset {a : HostAccess} (s : State)
    (reset : a = .hardReset ∨ ∃ v : Word, v.getLsbD 0 = true ∧ a = .regWrite 0x000 v) :
    hostStep a s = .next s.resetBlock := by
  rcases reset with rfl | ⟨v, srst, rfl⟩
  · rfl
  · have written : s.ctrlWrite v = s.resetBlock := if_pos srst
    rw [hostStep_regWrite v s (by decide)]
    cases busy : s.busy <;> simp [State.access, busy, State.regWriteBusy, State.regWriteIdle, written]

/-- The host's next access is taken when no command runs, and when the script has it land while one runs. -/
theorem step_of_access {s : State} {e : HostEvent} {rest : List HostEvent} (script : s.host = e :: rest)
    (lands : s.running = none ∨ e.whileBusy = true) : step s = hostStep e.access { s with host := rest } := by
  rcases running : s.running with _ | w
  · simp only [step, running, idleStep, script]
  · have busy : e.whileBusy = true := lands.resolve_left (by simp [running])
    simp only [step, running, busyStep, script, if_pos busy]

/-- Settles O2: the step takes the access, and either reset resets the block and nothing of the outside world. -/
theorem eitherResetEndsEverything : Obligations.EitherResetEndsEverything := by
  intro s e rest script lands reset
  exact ⟨_, (step_of_access script lands).trans (hostStep_reset _ reset), State.resetBlock_atReset _, rfl, rfl⟩

/-- Settles O12: the state after reset is what a reset of the block leaves, and that is safe. -/
theorem resetIsSafe : Obligations.ResetIsSafe := ⟨ControlOk.reset, BufferOk.resetBlock State.reset⟩

/-! ### Nothing stops the machine (60_exceptions R450, R452) -/

theorem exec_next (i : Instr) (s : State) : ∃ t, exec i s = .next t := by
  obtain ⟨checks, r, run, -⟩ := exec_shape i s
  exact run ▸ runCommand_next i s checks r

theorem runWord_next (w : Word) (s : State) : ∃ t, runWord w s = .next t := by
  unfold runWord
  split
  · exact exec_next _ s
  · exact ⟨_, rfl⟩

theorem hostStep_next (a : HostAccess) (s : State) : ∃ t, hostStep a s = .next t := by
  unfold hostStep
  split
  · split
    · exact ⟨_, rfl⟩
    · unfold issue
      split
      · exact ⟨_, rfl⟩
      · exact runWord_next _ s
  · exact ⟨_, rfl⟩

/-- A step is an access of the host, the run of a command word, or nothing, and none of them stops. -/
theorem step_next (s : State) : ∃ t, step s = .next t := by
  unfold step
  split
  · unfold idleStep
    split
    · exact hostStep_next _ _
    · exact ⟨_, rfl⟩
  · unfold busyStep
    split
    · split
      · exact hostStep_next _ _
      · exact runWord_next _ s
    · exact runWord_next _ s

/-- Settles O9: every command runs in the shared frame, which always answers a next state. -/
theorem noCommandAndNoStepStops : Obligations.NoCommandAndNoStepStops := ⟨exec_next, step_next⟩

/-! ### What a fault leaves alone (60_exceptions R452, R454) -/

/-- Changing nothing keeps every frame. -/
theorem Kept.self (e : Writes) (s : State) : Kept e s s where
  regs _ _ := rfl
  bytes _ _ := rfl
  flags _ _ := rfl
  vfail _ := rfl
  xof _ := ⟨rfl, rfl, rfl⟩
  entropy _ := ⟨rfl, rfl⟩
  params := rfl
  ctrl := rfl
  size := rfl
  outside := ⟨rfl, rfl, rfl, rfl⟩
  attempts := rfl

/-- A request of entropy changes nothing but the port's position (20_memory R97). -/
theorem Kept.entropyNext {e : Writes} {s u : State} (kept : Kept e s u) (port : e.entropy = true) :
    Kept e s u.entropyNext :=
  { kept with entropy := fun no => nomatch port.symm.trans no }

/-- Taking a fault changes nothing that a frame speaks of. -/
theorem Kept.takeFault {e : Writes} {s u : State} (kept : Kept e s u) (c : FaultCode) (w : Word) :
    Kept e s (u.takeFault c w) :=
  have fault := u.takeFault_kept c w
  { regs := fun r other => (fault.regs r List.not_mem_nil).trans (kept.regs r other)
    bytes := fun a outside => (fault.bytes a nofun).trans (kept.bytes a outside)
    flags := fun k other => (fault.flags k List.not_mem_nil).trans (kept.flags k other)
    vfail := fun no => (fault.vfail rfl).trans (kept.vfail no)
    xof := fun no => by simpa using kept.xof no
    entropy := fun no => by simpa using kept.entropy no
    params := fault.params.trans kept.params
    ctrl := fault.ctrl.trans kept.ctrl
    size := fault.size.trans kept.size
    outside := by simpa using kept.outside
    attempts := fault.attempts.trans kept.attempts }

/-- Everything a command can do, a fault with the state it is taken in: that of the command, or, for ERR_ENTROPY and
ERR_BOUND, the one after one or two entropy requests (60_exceptions R452). -/
theorem exec_fault_cases {i : Instr} {s t : State} (run : exec i s = .next t) :
    (∃ c u, t = State.takeFault u c (encode i) ∧ Kept { entropy := true } s u ∧ u.status = s.status ∧
      u.errcode = s.errcode ∧ u.errinfo = s.errinfo ∧ (c = .entropy ∨ c = .bound ∨ u = s)) ∨
    (∃ u, EffectShape s u ∧ t = u.complete) ∨ t = s.stayBusy (encode i) := by
  rcases exec_cases i s with ⟨c, fault⟩ | ⟨u, shape, effect⟩ | ⟨c, u, code, asked, late⟩ | pending
  · exact .inl ⟨c, s, Host.Outcome.next.inj (run.symm.trans fault), Kept.self _ s, rfl, rfl, rfl,
      .inr (.inr rfl)⟩
  · exact .inr (.inl ⟨u, shape, Host.Outcome.next.inj (run.symm.trans effect)⟩)
  · refine .inl ⟨c, u, Host.Outcome.next.inj (run.symm.trans late), ?_⟩
    rcases asked with rfl | rfl
    · exact ⟨(Kept.self _ s).entropyNext rfl, rfl, rfl, rfl, code.imp_right .inl⟩
    · exact ⟨((Kept.self _ s).entropyNext rfl).entropyNext rfl, rfl, rfl, rfl, code.imp_right .inl⟩
  · exact .inr (.inr (Host.Outcome.next.inj (run.symm.trans pending)))

theorem State.err_congr {s u : State} (status : u.status = s.status) : u.err = s.err := congrArg (·.getLsbD 2) status

theorem State.ovr_congr {s u : State} (status : u.status = s.status) : u.ovr = s.ovr := congrArg (·.getLsbD 3) status

/-- Settles O13: only the entry of a fault sets ERR, and before it nothing but entropy requests has happened. -/
theorem faultHasNoOtherEffect : Obligations.FaultHasNoOtherEffect := by
  intro i s t noErr run err
  rcases exec_fault_cases run with ⟨c, u, rfl, kept, status, -, -, late⟩ | ⟨u, shape, rfl⟩ | rfl
  · obtain ⟨errcode, errinfo⟩ := (u.takeFault_records c (encode i)).1 ((State.err_congr status).trans noErr)
    refine ⟨kept.takeFault c _, errinfo, u.takeFault_done c _, (u.takeFault_ovr c _).trans (State.ovr_congr status),
      u.takeFault_running c _, u.takeFault_pseq c _, fun notEntropy notBound => ?_⟩
    rw [errcode] at notEntropy notBound
    rcases late with rfl | rfl | rfl
    · exact absurd rfl notEntropy
    · exact absurd rfl notBound
    · exact ⟨u.takeFault_entropyIn c _, u.takeFault_entropyCount c _⟩
  · exact absurd (err.symm.trans (shape.ended.err.trans noErr)) (by decide)
  · exact absurd (err.symm.trans noErr) (by decide)

/-- Settles O14: a fault, an effect and a command that stays BUSY each keep ERR and, with it, the record of the first
fault. -/
theorem firstFaultIsKept : Obligations.FirstFaultIsKept := by
  intro i s t err run
  rcases exec_fault_cases run with ⟨c, u, rfl, -, status, errcode, errinfo, -⟩ | ⟨u, shape, rfl⟩ | rfl
  · obtain ⟨keptCode, keptInfo⟩ := (u.takeFault_records c (encode i)).2 ((State.err_congr status).trans err)
    exact ⟨u.takeFault_err c _, keptCode.trans errcode, keptInfo.trans errinfo, fun _ => u.takeFault_done c _⟩
  · have ended := shape.ended
    exact ⟨ended.err.trans err, ended.errcode, ended.errinfo, fun _ => ended.done⟩
  · exact ⟨err, rfl, rfl, nofun⟩

/-! ### Writes of STATUS and CTRL (10_state R44, R45; 60_exceptions R455, R456) -/

/-- A write of STATUS is honoured at any time. -/
theorem State.access_statusWrite (s : State) (v : Word) : s.access (.regWrite 0x004 v) = s.clearStatus v := by
  cases busy : s.busy <;> simp [State.access, busy, State.regWriteBusy, State.regWriteIdle]

/-- A write of CTRL with SRST = 0 is honoured at any time. -/
theorem State.access_ctrlWrite (s : State) {v : Word} (noReset : v.getLsbD 0 = false) :
    s.access (.regWrite 0x000 v) = { s with ctrl := v &&& 0x6#32 } := by
  have written : s.ctrlWrite v = { s with ctrl := v &&& 0x6#32 } := if_neg (Bool.eq_false_iff.mp noReset)
  cases busy : s.busy <;> simp [State.access, busy, State.regWriteBusy, State.regWriteIdle, written]

/-- A write of STATUS clears, among bits 1 to 3, those it writes 1 to. -/
theorem State.clearStatus_getLsbD (s : State) (v : Word) {k : Nat} (listed : (0xE#32).getLsbD k = true) :
    (s.clearStatus v).status.getLsbD k = (s.status.getLsbD k && !v.getLsbD k) := by
  have hk : k < 32 := BitVec.lt_of_getLsbD listed
  simp only [State.clearStatus_status, BitVec.getLsbD_and, BitVec.getLsbD_not, hk, decide_true, Bool.true_and, listed,
    Bool.and_true]

theorem State.clearStatus_kept (s : State) (v : Word) : Kept {} s (s.clearStatus v) := { Kept.refl s with }

/-- Settles O17: DONE, ERR and OVR are the bits of STATUS that a write can clear. -/
theorem statusWriteClearsWrittenBits : Obligations.StatusWriteClearsWrittenBits := by
  intro s v
  refine ⟨s.clearStatus v, s.access_statusWrite v, s.clearStatus_getLsbD v (by decide),
    s.clearStatus_getLsbD v (by decide), s.clearStatus_getLsbD v (by decide), rfl, rfl, fun clears => ?_, fun keeps => ?_,
    s.clearStatus_kept v⟩
  · exact ⟨if_pos clears, if_pos clears⟩
  · exact ⟨if_neg (Bool.eq_false_iff.mp keeps), if_neg (Bool.eq_false_iff.mp keeps)⟩

/-- CTRL stores bits 1 and 2 of what is written, IE and EIE (10_state R44). -/
theorem enables_getLsbD (v : Word) (k : Nat) : (v &&& 0x6#32).getLsbD k = (v.getLsbD k && (k == 1 || k == 2)) := by
  have stored : (0x6#32).getLsbD k = (k == 1 || k == 2) := by
    by_cases hk : k < 32
    · revert hk k
      decide
    · rw [BitVec.getLsbD_of_ge _ _ (by omega), eq_comm, Bool.or_eq_false_iff, beq_eq_false_iff_ne, beq_eq_false_iff_ne]
      omega
  rw [BitVec.getLsbD_and, stored]

/-- The interrupt line is high exactly when a status bit and its enable are both 1 (60_exceptions R456). -/
theorem State.irq_iff (s : State) : s.irq = true ↔
    (s.status.getLsbD 1 = true ∧ s.ctrl.getLsbD 1 = true) ∨ (s.status.getLsbD 2 = true ∧ s.ctrl.getLsbD 2 = true) := by
  simp only [State.irq, State.done, State.err, State.ie, State.eie, Bool.or_eq_true, Bool.and_eq_true]

/-- Settles O18: the line is a function of two bits of STATUS and two of CTRL, and the writes clear either pair. -/
theorem enablesAndTheInterruptLine : Obligations.EnablesAndTheInterruptLine := by
  intro s v
  refine ⟨fun noReset => ?written, ?acknowledged, ?disabled⟩
  case written =>
    refine ⟨_, s.access_ctrlWrite noReset, enables_getLsbD v, rfl, rfl, ?_⟩
    rw [State.irq_iff, enables_getLsbD, enables_getLsbD]
    simp
  case acknowledged =>
    rw [s.access_statusWrite, Bool.eq_false_iff, Ne, State.irq_iff, s.clearStatus_getLsbD _ (by decide),
      s.clearStatus_getLsbD _ (by decide)]
    simp
  case disabled =>
    rw [s.access_ctrlWrite (by decide), Bool.eq_false_iff, Ne, State.irq_iff]
    simp

end Sys2Proof.Machine
end

section
/-! What the derivations of the protocol give when their draws end, vectors with their lengths and bounds, and that more
windows give the same (43_xof R261; 47_protocol R383 to R391; log 5). -/

namespace Sys2Proof.Machine

/-! ### Lists of computations -/

theorem allSome_eq_some_iff {α : Type} {os : List (Option α)} {vs : List α} :
    allSome os = some vs ↔ os = vs.map some := by
  induction os generalizing vs with
  | nil => cases vs <;> simp [allSome]
  | cons o os ih =>
    cases o with
    | none => cases vs <;> simp [allSome]
    | some v =>
      simp only [allSome]
      constructor
      · intro ends
        split at ends
        · nomatch ends
        · next rest tail =>
          obtain rfl := Option.some.inj ends
          rw [ih.mp tail, List.map_cons]
      · intro same
        cases vs with
        | nil => nomatch same
        | cons w ws =>
          obtain ⟨head, tail⟩ := List.cons.inj same
          obtain rfl := Option.some.inj head
          simp only [ih.mpr tail]

/-- The computations for the first n indices have all answered, each with the entry at its index. -/
theorem allSome_map_range_iff {α : Type} {f : Nat → Option α} {n : Nat} {vs : List α} :
    allSome ((List.range n).map f) = some vs ↔ vs.length = n ∧ ∀ i < n, vs[i]? = f i := by
  have entry : ∀ i < n, ((List.range n).map f)[i]? = some (f i) := fun i hi => by simp [hi]
  rw [allSome_eq_some_iff]
  constructor
  · intro same
    have length : vs.length = n := by simpa using (congrArg List.length same).symm
    refine ⟨length, fun i hi => ?_⟩
    have here := entry i hi
    rw [same, List.getElem?_map, List.getElem?_eq_getElem (hi.trans_eq length.symm), Option.map_some] at here
    rw [List.getElem?_eq_getElem (hi.trans_eq length.symm)]
    exact Option.some.inj here
  · rintro ⟨length, entries⟩
    refine List.ext_getElem (by simp [length]) fun i hi _ => ?_
    have inside : i < n := by simpa using hi
    rw [List.getElem_map, List.getElem_map, List.getElem_range, ← entries i inside]
    exact List.getElem?_eq_getElem _

/-! ### Vectors (43_xof R261; 42_vector R223, R225) -/

theorem sample_lt {S : Nat → Byte} {tries m n off p q : Nat} {vs : List Nat}
    (ended : sample S tries m n off p = some (vs, q)) : ∀ v ∈ vs, v < m + off := by
  obtain ⟨rs, f, draws, rfl, -⟩ := sample_eq_some_iff.mp ended
  exact List.forall_mem_map.mpr fun r mem => Nat.add_lt_add_right ((drawMany_drawsAll draws).replicate_lt r mem) off

theorem sample_mono {S : Nat → Byte} {tries more m n off p : Nat} {r : List Nat × Nat} (le : tries ≤ more)
    (ended : sample S tries m n off p = some r) : sample S more m n off p = some r := by
  obtain ⟨rs, f, draws, values, pos⟩ := sample_eq_some_iff.mp (show _ = some (r.1, r.2) from ended)
  exact sample_eq_some_iff.mpr ⟨rs, f, drawMany_mono le draws, values, pos⟩

theorem allBelow_iff {m : Nat} {vs : List Nat} : allBelow m vs = true ↔ ∀ v ∈ vs, v < m := by
  simp only [allBelow, List.all_eq_true, decide_eq_true_iff]

theorem packQ_length (p : Params) (vs : List Nat) : (packQ p vs).length = p.pkq vs.length := packVec_length ..

section ValidParameters

variable {p : Params} (valid : p.valid = true)
include valid

theorem syn_allBelow (V v : List Nat) : allBelow p.Q (p.syn V v) = true :=
  allBelow_iff.mpr (List.forall_mem_map.mpr fun _ _ => Nat.mod_lt _ (Nat.zero_lt_of_lt (Params.one_lt_Q valid)))

theorem embVec_allBelow (es : List Nat) : allBelow p.Q (p.embVec es) = true :=
  allBelow_iff.mpr (List.forall_mem_map.mpr fun e _ => Params.emb_lt valid e)

/-- Every power of g is in the subgroup, whatever its exponent (41_scalar R190). -/
theorem Params.inG_emb (e : Nat) : p.inG (p.emb e) = true :=
  (p.inG_iff _).mpr ⟨e % p.Z, Nat.mod_lt _ (Nat.zero_lt_of_lt (Params.one_lt_Z valid)), Params.emb_mod valid e⟩

/-- A short restricted vector expands to N exponents (47_protocol R385). -/
theorem Params.expand_length (Wm : List Nat) {short : List Nat} (length : short.length = p.L) :
    (p.expand Wm short).length = p.N := by
  unfold Params.expand
  split
  case isTrue variant => exact expz_length valid variant Wm short
  case isFalse rsdp => rw [length, Params.L, if_neg rsdp]

/-- The exponents of an expansion are below Z when those expanded are. -/
theorem Params.expand_lt (Wm : List Nat) {short : List Nat} (length : short.length = p.L)
    (below : ∀ v ∈ short, v < p.Z) : ∀ v ∈ p.expand Wm short, v < p.Z := by
  unfold Params.expand
  split
  case isTrue variant =>
    rw [Params.L, if_pos variant] at length
    exact Params.expz_lt_Z valid Wm fun i hi =>
      getD_lt_of_allBelow (allBelow_iff.mpr below) (hi.trans_eq length.symm)
  case isFalse => exact below

/-- The expansion of a difference is the difference of the expansions. -/
theorem Params.expand_subVec (Wm : List Nat) {u v : List Nat} (hu : u.length = p.L) (hv : v.length = p.L)
    (below : ∀ x ∈ v, x < p.Z) :
    p.expand Wm (subVec p.Z u v) = subVec p.Z (p.expand Wm u) (p.expand Wm v) := by
  unfold Params.expand
  split
  case isTrue variant =>
    rw [Params.L, if_pos variant] at hu hv
    exact Params.expz_subVec valid Wm hu hv fun i hi =>
      getD_lt_of_allBelow (allBelow_iff.mpr below) (hi.trans_eq hv.symm)
  case isFalse => rfl

end ValidParameters

/-! ### The shared derivations (47_protocol R383 to R386, R389, R391) -/

theorem streamBytes_take (S : Nat → Byte) (pos : Nat) {k n : Nat} (le : k ≤ n) :
    (streamBytes S pos n).take k = streamBytes S pos k := by
  rw [streamBytes, ← List.map_take, List.take_range, Nat.min_eq_left le, streamBytes]

theorem streamBytes_drop (S : Nat → Byte) (pos k n : Nat) :
    (streamBytes S pos (k + n)).drop k = streamBytes S (pos + k) n := by
  refine List.ext_getElem (by simp) fun j _ _ => ?_
  simp only [streamBytes, List.getElem_drop, List.getElem_map, List.getElem_range, Nat.add_assoc]

/-- The two seeds are the halves of one run of stream bytes. -/
theorem expandMaster_eq (X : Bytes → Nat → Byte) (p : Params) (ms : Bytes) :
    let seeds := streamBytes (X (ms ++ le16 (3 * p.T + 1))) 0 (2 * p.seedBytes)
    expandMaster X p ms = (seeds.take p.seedBytes, seeds.drop p.seedBytes) := by
  intro seeds
  have first := streamBytes_take (X (ms ++ le16 (3 * p.T + 1))) 0 (k := p.seedBytes) (n := 2 * p.seedBytes) (by omega)
  have second := streamBytes_drop (X (ms ++ le16 (3 * p.T + 1))) 0 p.seedBytes p.seedBytes
  rw [← Nat.two_mul, Nat.zero_add] at second
  exact Prod.ext first.symm second.symm

section Derivations

variable {X : Bytes → Nat → Byte} {p : Params} {tries more : Nat}

theorem expandPublic_mono (le : tries ≤ more) {ps : Bytes} {r : List Nat × List Nat}
    (ended : expandPublic X p tries ps = some r) : expandPublic X p more ps = some r := by
  simp only [expandPublic] at ended ⊢
  split at ended
  · nomatch ended
  · next V pos matrix =>
    simp only [sample_mono le matrix]
    split at ended
    case isTrue variant =>
      rw [if_pos variant]
      split at ended
      · nomatch ended
      · next Wm q rest => simpa only [sample_mono le rest] using ended
    case isFalse rsdp => rwa [if_neg rsdp]

theorem expandSecret_eq_some_iff {es : Bytes} {short : List Nat} :
    expandSecret X p tries es = some short ↔
      ∃ q, sample (X (framed es (3 * p.T + 3))) tries p.Z p.L 0 0 = some (short, q) := by
  simp [expandSecret]

theorem expandSecret_mono (le : tries ≤ more) {es : Bytes} {short : List Nat}
    (ended : expandSecret X p tries es = some short) : expandSecret X p more es = some short := by
  obtain ⟨q, draws⟩ := expandSecret_eq_some_iff.mp ended
  exact expandSecret_eq_some_iff.mpr ⟨q, sample_mono le draws⟩

/-- The secret is L exponents below Z. -/
theorem expandSecret_spec {es : Bytes} {short : List Nat} (ended : expandSecret X p tries es = some short) :
    short.length = p.L ∧ ∀ v ∈ short, v < p.Z := by
  obtain ⟨q, draws⟩ := expandSecret_eq_some_iff.mp ended
  exact ⟨sample_length draws, sample_lt draws⟩

theorem roundExpand_eq_some_iff {rs salt : Bytes} {i : Nat} {mask u : List Nat} :
    roundExpand X p tries rs salt i = some (mask, u) ↔ ∃ pos q,
      sample (X (framed (rs ++ salt) (2 * p.T - 1 + i))) tries p.Z p.L 0 0 = some (mask, pos) ∧
        sample (X (framed (rs ++ salt) (2 * p.T - 1 + i))) tries p.Q p.N 0 pos = some (u, q) := by
  simp only [roundExpand]
  constructor
  · intro ended
    split at ended
    · nomatch ended
    · next mask' pos masks =>
      split at ended
      · nomatch ended
      · next u' q blinds =>
        obtain ⟨rfl, rfl⟩ := Prod.mk.inj (Option.some.inj ended)
        exact ⟨pos, q, masks, blinds⟩
  · rintro ⟨pos, q, masks, blinds⟩
    simp only [masks, blinds]

theorem roundExpand_mono (le : tries ≤ more) {rs salt : Bytes} {i : Nat} {r : List Nat × List Nat}
    (ended : roundExpand X p tries rs salt i = some r) : roundExpand X p more rs salt i = some r := by
  obtain ⟨pos, q, masks, blinds⟩ := roundExpand_eq_some_iff.mp (show _ = some (r.1, r.2) from ended)
  exact roundExpand_eq_some_iff.mpr ⟨pos, q, sample_mono le masks, sample_mono le blinds⟩

theorem roundExpand_mask_lt {rs salt : Bytes} {i : Nat} {mask u : List Nat}
    (ended : roundExpand X p tries rs salt i = some (mask, u)) : ∀ v ∈ mask, v < p.Z := by
  obtain ⟨pos, q, masks, -⟩ := roundExpand_eq_some_iff.mp ended
  exact sample_lt masks

theorem challenges_eq_some_iff {dch1 : Bytes} {betas : List Nat} :
    challenges X p tries dch1 = some betas ↔
      ∃ q, sample (X (framed dch1 (3 * p.T))) tries (p.Q - 1) p.T 1 0 = some (betas, q) := by
  simp [challenges]

theorem challenges_mono (le : tries ≤ more) {dch1 : Bytes} {betas : List Nat}
    (ended : challenges X p tries dch1 = some betas) : challenges X p more dch1 = some betas := by
  obtain ⟨q, draws⟩ := challenges_eq_some_iff.mp ended
  exact challenges_eq_some_iff.mpr ⟨q, sample_mono le draws⟩

theorem challenges_length {dch1 : Bytes} {betas : List Nat} (ended : challenges X p tries dch1 = some betas) :
    betas.length = p.T := by
  obtain ⟨q, draws⟩ := challenges_eq_some_iff.mp ended
  exact sample_length draws

theorem expandBitmap_mono (le : tries ≤ more) {d : Bytes} {b : List Bool}
    (ended : expandBitmap X p tries d = some b) : expandBitmap X p more d = some b := by
  simp only [expandBitmap, fixedWeight] at ended ⊢
  split at ended
  · nomatch ended
  · next rs f draws => simpa only [drawMany_mono le draws] using ended

/-- The public key is the public seed and the packed syndrome of the embedded secret (47_protocol R381, R392). -/
theorem publicKey_eq_some_iff {ms pk : Bytes} :
    publicKey X p tries ms = some pk ↔ ∃ V Wm short,
      expandPublic X p tries (expandMaster X p ms).1 = some (V, Wm) ∧
      expandSecret X p tries (expandMaster X p ms).2 = some short ∧
      pk = (expandMaster X p ms).1 ++ packQ p (p.syn V (p.embVec (p.expand Wm short))) := by
  simp only [publicKey]
  constructor
  · intro ended
    split at ended
    · nomatch ended
    · next V Wm matrices =>
      split at ended
      · nomatch ended
      · next short secret => exact ⟨V, Wm, short, matrices, secret, (Option.some.inj ended).symm⟩
  · rintro ⟨V, Wm, short, matrices, secret, rfl⟩
    simp only [matrices, secret]

theorem publicKey_mono (le : tries ≤ more) {ms pk : Bytes} (ended : publicKey X p tries ms = some pk) :
    publicKey X p more ms = some pk := by
  obtain ⟨V, Wm, short, matrices, secret, key⟩ := publicKey_eq_some_iff.mp ended
  exact publicKey_eq_some_iff.mpr
    ⟨V, Wm, short, expandPublic_mono le matrices, expandSecret_mono le secret, key⟩

end Derivations

end Sys2Proof.Machine
end

section
/-! The signer's rounds, the run of the signer that a signature comes from, and where the fields of a signature stand
(47_protocol R382, R387 to R391, R393). Settles O56. -/

namespace Sys2Proof.Machine

/-! ### One round of the signer (47_protocol R387, R390) -/

/-- What RoundCommit makes of the mask and the blinding vector of round i. -/
def signerRound (X : Bytes → Nat → Byte) (p : Params) (V Wm short : List Nat) (rs salt : Bytes) (i : Nat)
    (mask u : List Nat) : RoundOut :=
  let delta := subVec p.Z short mask
  ⟨mask, u, p.embVec delta,
    commit0 X p (p.syn V (mulVec p.Q (p.embVec (p.expand Wm delta)) u)) (p.embVec delta) salt i, commit1 X p rs salt i⟩

/-- Sizes and values of what the signer keeps of a round: a mask and a masked secret of L entries, a blinding vector of N,
two digests, the masked secret in the restricted subgroup. -/
structure RoundOut.Wf (p : Params) (r : RoundOut) : Prop where
  mask : r.mask.length = p.L
  blind : r.blind.length = p.N
  sigma : r.sigma.length = p.L
  cmt0 : r.cmt0.length = p.digestBytes
  cmt1 : r.cmt1.length = p.digestBytes
  below : allBelow p.Q r.sigma = true
  member : r.sigma.all p.inG = true

section Rounds

variable {X : Bytes → Nat → Byte} {p : Params} {tries more : Nat} {V Wm short : List Nat} {rs salt : Bytes} {i : Nat}

theorem roundCommit_eq_some_iff {r : RoundOut} : roundCommit X p tries V Wm short rs salt i = some r ↔
    ∃ mask u, roundExpand X p tries rs salt i = some (mask, u) ∧ signerRound X p V Wm short rs salt i mask u = r := by
  unfold roundCommit
  constructor
  · intro ended
    split at ended
    · nomatch ended
    · next mask u expanded => exact ⟨mask, u, expanded, Option.some.inj ended⟩
  · rintro ⟨mask, u, expanded, rfl⟩
    simp only [expanded, signerRound]

theorem roundCommit_mono (le : tries ≤ more) {r : RoundOut}
    (ended : roundCommit X p tries V Wm short rs salt i = some r) :
    roundCommit X p more V Wm short rs salt i = some r := by
  obtain ⟨mask, u, expanded, round⟩ := roundCommit_eq_some_iff.mp ended
  exact roundCommit_eq_some_iff.mpr ⟨mask, u, roundExpand_mono le expanded, round⟩

theorem roundCommit_wf (valid : p.valid = true) (length : short.length = p.L) {r : RoundOut}
    (ended : roundCommit X p tries V Wm short rs salt i = some r) : r.Wf p := by
  obtain ⟨mask, u, expanded, rfl⟩ := roundCommit_eq_some_iff.mp ended
  obtain ⟨hmask, hu⟩ := roundExpand_length expanded
  exact
    { mask := hmask
      blind := hu
      sigma := by simp [signerRound, Params.embVec, subVec, length, hmask]
      cmt0 := hashOf_length ..
      cmt1 := hashOf_length ..
      below := embVec_allBelow valid _
      member := List.all_eq_true.mpr (List.forall_mem_map.mpr fun e _ => Params.inG_emb valid e) }

/-- A response has N entries below Q (47_protocol R390). -/
theorem response_wf (valid : p.valid = true) {mask u : List Nat} (hmask : mask.length = p.L) (hu : u.length = p.N)
    (beta : Nat) :
    (response p Wm mask u beta).length = p.N ∧ allBelow p.Q (response p Wm mask u beta) = true := by
  constructor
  · rw [response, scaVec, List.length_zipWith, hu, Params.embVec, List.length_map, Params.expand_length valid Wm hmask,
      Nat.min_self]
  · rw [allBelow_iff, response, scaVec, ← List.map_uncurry_zip_eq_zipWith]
    exact List.forall_mem_map.mpr fun _ _ => Nat.mod_lt _ (Nat.zero_lt_of_lt (Params.one_lt_Q valid))

end Rounds

/-! ### The run of the signer (47_protocol R393) -/

/-- digest_01 of the rounds (47_protocol R388). -/
def roundsDigest01 (X : Bytes → Nat → Byte) (p : Params) (rounds : List RoundOut) : Bytes :=
  digest01 X p (merkleRoot X p (rounds.map (·.cmt0))) (rounds.map (·.cmt1))

/-- dch1 of the rounds (47_protocol R389). -/
def roundsChallenge (X : Bytes → Nat → Byte) (p : Params) (salt msg : Bytes) (rounds : List RoundOut) : Bytes :=
  challengeDigest X p msg (roundsDigest01 X p rounds) salt

/-- digest_b of the rounds under their challenges (47_protocol R391). -/
def roundsDigestB (X : Bytes → Nat → Byte) (p : Params) (salt msg : Bytes) (Wm : List Nat) (rounds : List RoundOut)
    (betas : List Nat) : Bytes :=
  digestB X p (responses p Wm rounds betas) (roundsChallenge X p salt msg rounds)

/-- The values of a signer all of whose draws end, each tied to the derivation that gives it. -/
structure SignerRun (X : Bytes → Nat → Byte) (p : Params) (tries : Nat) (ms root salt msg : Bytes) where
  V : List Nat
  Wm : List Nat
  short : List Nat
  rounds : List RoundOut
  betas : List Nat
  b : List Bool
  matrices : expandPublic X p tries (expandMaster X p ms).1 = some (V, Wm)
  secret : expandSecret X p tries (expandMaster X p ms).2 = some short
  committed : allSome ((List.range p.T).map fun i =>
    roundCommit X p tries V Wm short ((roundSeeds X p root salt).getD i []) salt i) = some rounds
  challenged : challenges X p tries (roundsChallenge X p salt msg rounds) = some betas
  revealed : expandBitmap X p tries (roundsDigestB X p salt msg Wm rounds betas) = some b

namespace SignerRun

variable {X : Bytes → Nat → Byte} {p : Params} {tries more : Nat} {ms root salt msg : Bytes}

/-- The responses of a run. -/
def ys (r : SignerRun X p tries ms root salt msg) : List (List Nat) := responses p r.Wm r.rounds r.betas

/-- The signature of a run. -/
def sig (r : SignerRun X p tries ms root salt msg) : Bytes :=
  assemble X p root salt (roundsDigest01 X p r.rounds) (roundsDigestB X p salt msg r.Wm r.rounds r.betas) r.b r.rounds
    r.ys

end SignerRun

section Signature

variable {X : Bytes → Nat → Byte} {p : Params} {tries more : Nat} {ms root salt msg sig : Bytes} {b : List Bool}

/-- Signing gives a bitmap and a signature exactly when they are those of a run. -/
theorem signature_eq_some_iff : signature X p tries ms root salt msg = some (b, sig) ↔
    ∃ r : SignerRun X p tries ms root salt msg, r.b = b ∧ r.sig = sig := by
  simp only [signature]
  constructor
  · intro ended
    split at ended
    · next V Wm short matrices secret =>
      split at ended
      · nomatch ended
      · next rounds committed =>
        split at ended
        · nomatch ended
        · next betas challenged =>
          split at ended
          · nomatch ended
          · next b' revealed =>
            obtain ⟨rfl, rfl⟩ := Prod.mk.inj (Option.some.inj ended)
            exact ⟨⟨V, Wm, short, rounds, betas, b', matrices, secret, committed, challenged, revealed⟩, rfl, rfl⟩
    · nomatch ended
  · rintro ⟨⟨V, Wm, short, rounds, betas, b', matrices, secret, committed, challenged, revealed⟩, rfl, rfl⟩
    unfold roundsChallenge roundsDigest01 at challenged
    unfold roundsDigestB roundsChallenge roundsDigest01 at revealed
    simp only [matrices, secret, committed, challenged, revealed]
    rfl

theorem signature_mono (le : tries ≤ more) (ended : signature X p tries ms root salt msg = some (b, sig)) :
    signature X p more ms root salt msg = some (b, sig) := by
  obtain ⟨r, bitmap, assembled⟩ := signature_eq_some_iff.mp ended
  obtain ⟨number, each⟩ := allSome_map_range_iff.mp r.committed
  have committed : allSome ((List.range p.T).map fun i =>
      roundCommit X p more r.V r.Wm r.short ((roundSeeds X p root salt).getD i []) salt i) = some r.rounds :=
    allSome_map_range_iff.mpr ⟨number, fun i hi => by
      have here := List.getElem?_eq_getElem (hi.trans_eq number.symm)
      rw [here, roundCommit_mono le ((each i hi).symm.trans here)]⟩
  exact signature_eq_some_iff.mpr ⟨⟨r.V, r.Wm, r.short, r.rounds, r.betas, r.b, expandPublic_mono le r.matrices,
    expandSecret_mono le r.secret, committed, challenges_mono le r.challenged, expandBitmap_mono le r.revealed⟩, bitmap,
    assembled⟩

end Signature

namespace SignerRun

section Values

variable {X : Bytes → Nat → Byte} {p : Params} {tries : Nat} {ms root salt msg : Bytes}
  (r : SignerRun X p tries ms root salt msg)

theorem rounds_length : r.rounds.length = p.T := (allSome_map_range_iff.mp r.committed).1

theorem rounds_getElem? {i : Nat} (hi : i < p.T) :
    r.rounds[i]? = roundCommit X p tries r.V r.Wm r.short ((roundSeeds X p root salt).getD i []) salt i :=
  (allSome_map_range_iff.mp r.committed).2 i hi

/-- Round i is what RoundCommit makes of a mask and a blinding vector drawn from its seed. -/
theorem exists_expanded {i : Nat} (hi : i < p.T) : ∃ mask u,
    roundExpand X p tries ((roundSeeds X p root salt).getD i []) salt i = some (mask, u) ∧
      r.rounds[i]? =
        some (signerRound X p r.V r.Wm r.short ((roundSeeds X p root salt).getD i []) salt i mask u) := by
  have here := List.getElem?_eq_getElem (hi.trans_eq r.rounds_length.symm)
  obtain ⟨mask, u, expanded, round⟩ := roundCommit_eq_some_iff.mp ((r.rounds_getElem? hi).symm.trans here)
  exact ⟨mask, u, expanded, here.trans (congrArg some round.symm)⟩

theorem ys_length : r.ys.length = p.T := by
  rw [ys, responses, List.length_map, List.length_zip, r.rounds_length, challenges_length r.challenged, Nat.min_self]

theorem ys_getElem? {i : Nat} {round : RoundOut} (here : r.rounds[i]? = some round) :
    r.ys[i]? = some (response p r.Wm round.mask round.blind (r.betas.getD i 0)) := by
  obtain ⟨inside, -⟩ := List.getElem?_eq_some_iff.mp here
  have beta : r.betas[i]? = some (r.betas.getD i 0) := by
    have bound : i < r.betas.length := inside.trans_eq (r.rounds_length.trans (challenges_length r.challenged).symm)
    rw [List.getD_eq_getElem _ _ bound, List.getElem?_eq_getElem bound]
  rw [ys, responses, List.getElem?_map,
    (List.getElem?_zip_eq_some (z := (round, r.betas.getD i 0))).mpr ⟨here, beta⟩, Option.map_some]

variable (valid : p.valid = true)
include valid

theorem round_wf {round : RoundOut} (mem : round ∈ r.rounds) : round.Wf p := by
  obtain ⟨i, hi, rfl⟩ := List.getElem_of_mem mem
  have here := List.getElem?_eq_getElem hi
  exact roundCommit_wf valid (expandSecret_spec r.secret).1
    ((r.rounds_getElem? (hi.trans_eq r.rounds_length)).symm.trans here)

theorem y_wf {i : Nat} {round : RoundOut} (here : r.rounds[i]? = some round) :
    (r.ys.getD i []).length = p.N ∧ allBelow p.Q (r.ys.getD i []) = true := by
  have wf := r.round_wf valid (List.mem_of_getElem? here)
  rw [List.getD_eq_getElem?_getD, r.ys_getElem? here, Option.getD_some]
  exact response_wf valid wf.mask wf.blind _

theorem b_length : r.b.length = p.T := expandBitmap_length valid r.revealed

theorem ones_b : ones r.b = p.W := ones_eq_of_perm (expandBitmap_perm valid r.revealed)

theorem opened_length : (openedRounds r.b).length = p.T - p.W := expandBitmap_opened valid r.revealed

theorem cmt0_length : ∀ d ∈ r.rounds.map (·.cmt0), d.length = p.digestBytes :=
  List.forall_mem_map.mpr fun _ mem => (r.round_wf valid mem).cmt0

end Values

end SignerRun

/-! ### Where the fields stand (47_protocol R382) -/

theorem slice_append (before item after : Bytes) {off n : Nat} (offset : before.length = off)
    (length : item.length = n) : slice (before ++ item ++ after) off n = item := by
  rw [slice, List.append_assoc, ← offset, List.drop_left, ← length, List.take_left]

section Layout

variable {p : Params} {salt d01 db st mt records : Bytes}

/-- The sizes of the fixed fields of a signature. -/
structure FieldSizes (p : Params) (salt d01 db st mt : Bytes) : Prop where
  salt : salt.length = p.saltBytes
  d01 : d01.length = p.digestBytes
  db : db.length = p.digestBytes
  st : st.length = p.stMax * p.seedBytes
  mt : mt.length = p.mtMax * p.digestBytes

/-- Every fixed field reads back from a string laid out as R382 says. -/
theorem FieldSizes.readBack (sizes : FieldSizes p salt d01 db st mt) (records : Bytes) :
    let sig := salt ++ d01 ++ db ++ st ++ mt ++ records
    sigSalt p sig = salt ∧ sigDigest01 p sig = d01 ∧ sigDigestB p sig = db ∧ sigSt p sig = st ∧ sigMt p sig = mt := by
  intro sig
  have split : ∀ before item after : Bytes, sig = before ++ item ++ after → ∀ {off n : Nat}, before.length = off →
      item.length = n → slice sig off n = item := fun before item after same _ _ offset length =>
    same ▸ slice_append before item after offset length
  have d01End : (salt ++ d01).length = p.saltBytes + p.digestBytes := by
    rw [List.length_append, sizes.salt, sizes.d01]
  have dbEnd : (salt ++ d01 ++ db).length = stOffset p := by
    rw [List.length_append, d01End, sizes.db, stOffset]
    omega
  have stEnd : (salt ++ d01 ++ db ++ st).length = mtOffset p := by
    rw [List.length_append, dbEnd, sizes.st, mtOffset]
  refine ⟨split [] salt (d01 ++ db ++ st ++ mt ++ records) ?_ rfl sizes.salt,
    split salt d01 (db ++ st ++ mt ++ records) ?_ sizes.salt sizes.d01,
    split (salt ++ d01) db (st ++ mt ++ records) ?_ d01End sizes.db,
    split (salt ++ d01 ++ db) st (mt ++ records) ?_ dbEnd sizes.st,
    split (salt ++ d01 ++ db ++ st) mt records rfl stEnd sizes.mt⟩
  all_goals simp only [sig, List.append_assoc, List.nil_append]

/-- The k-th record is the k-th item of what follows the fixed fields. -/
theorem FieldSizes.record (sizes : FieldSizes p salt d01 db st mt) (records : Bytes) (k : Nat) :
    sigRecord p (salt ++ d01 ++ db ++ st ++ mt ++ records) k = itemAt p.recBytes records k := by
  have offset : mtOffset p + p.mtMax * p.digestBytes = (salt ++ d01 ++ db ++ st ++ mt).length := by
    simp only [List.length_append, sizes.salt, sizes.d01, sizes.db, sizes.st, sizes.mt, stOffset, mtOffset]
    omega
  rw [sigRecord, slice, offset, List.drop_length_add_append, itemAt]

end Layout

/-- The three fields of a record read back (47_protocol R382). -/
theorem record_readBack {p : Params} {y : List Nat} {r : RoundOut} (length : y.length = p.N) (wf : r.Wf p) :
    (record p y r).length = p.recBytes ∧ recY p (record p y r) = packQ p y ∧
      recSigma p (record p y r) = packQ p r.sigma ∧ recCmt1 p (record p y r) = r.cmt1 := by
  have packedY : (packQ p y).length = p.pkq p.N := by rw [packQ_length, length]
  have packedSigma : (packQ p r.sigma).length = p.pkq p.L := by rw [packQ_length, wf.sigma]
  refine ⟨?_, ?_, slice_append _ _ _ packedY packedSigma, ?_⟩
  · rw [record, List.length_append, List.length_append, packedY, packedSigma, wf.cmt1, Params.recBytes]
  · rw [recY, record, List.append_assoc, List.take_left' packedY]
  · have last := slice_append (packQ p y ++ packQ p r.sigma) r.cmt1 []
      (by rw [List.length_append, packedY, packedSigma]) wf.cmt1
    rwa [List.append_nil] at last

/-- What a packed vector reads back to, and that it is canonical (44_codec R302, R303). -/
theorem packQ_readBack {p : Params} {vs : List Nat} {n : Nat} (length : vs.length = n) (below : allBelow p.Q vs = true) :
    unpackVec (bits p.Q) n (packQ p vs) = vs ∧ packedCanonical p.Q n (packQ p vs) = true := by
  subst length
  exact ⟨unpackVec_packVec (lt_two_pow_bits_of_allBelow below), packedCanonical_packVec below⟩

/-! ### The signature of a run -/

namespace SignerRun

section Fields

variable {X : Bytes → Nat → Byte} {p : Params} {tries : Nat} {ms root salt msg : Bytes}
  (r : SignerRun X p tries ms root salt msg) (valid : p.valid = true) (hroot : root.length = p.seedBytes)
  (hsalt : salt.length = p.saltBytes) (seeds : coverCount p r.b ≤ p.stMax) (digests : coverCount p r.b ≤ p.mtMax)

/-- What the run keeps of round i. -/
def round (i : Nat) : RoundOut := r.rounds.getD i ⟨[], [], [], [], []⟩

theorem rounds_getElem?_round {i : Nat} (hi : i < p.T) : r.rounds[i]? = some (r.round i) := by
  rw [round, List.getD_eq_getElem _ _ (hi.trans_eq r.rounds_length.symm)]
  exact List.getElem?_eq_getElem _

/-- The record of round i. -/
def recordAt (i : Nat) : Bytes := record p (r.ys.getD i []) (r.round i)

/-- The records of the opened rounds, in ascending order. -/
def records : List Bytes := (openedRounds r.b).map r.recordAt

include valid

theorem records_length : r.records.length = p.T - p.W := (List.length_map _).trans (r.opened_length valid)

theorem opened_lt {i : Nat} (mem : i ∈ openedRounds r.b) : i < p.T :=
  (List.mem_range.mp (List.mem_of_mem_filter mem)).trans_eq (r.b_length valid)

/-- The fields of the record of a round read back. -/
theorem recordAt_readBack {i : Nat} (hi : i < p.T) : (r.recordAt i).length = p.recBytes ∧
    recY p (r.recordAt i) = packQ p (r.ys.getD i []) ∧ recSigma p (r.recordAt i) = packQ p (r.round i).sigma ∧
    recCmt1 p (r.recordAt i) = (r.round i).cmt1 :=
  have here := r.rounds_getElem?_round hi
  record_readBack (r.y_wf valid here).1 (r.round_wf valid (List.mem_of_getElem? here))

theorem records_each_length : ∀ x ∈ r.records, x.length = p.recBytes :=
  List.forall_mem_map.mpr fun _ mem => (r.recordAt_readBack valid (r.opened_lt valid mem)).1

/-- A record packs its response and its masked secret canonically, the masked secret in the restricted subgroup. -/
theorem recordAt_canonical {i : Nat} (hi : i < p.T) : packedCanonical p.Q p.N (recY p (r.recordAt i)) = true ∧
    packedCanonical p.Q p.L (recSigma p (r.recordAt i)) = true ∧
    (unpackVec (bits p.Q) p.L (recSigma p (r.recordAt i))).all p.inG = true := by
  have here := r.rounds_getElem?_round hi
  have wf := r.round_wf valid (List.mem_of_getElem? here)
  obtain ⟨yLength, yBelow⟩ := r.y_wf valid here
  obtain ⟨-, yField, sigmaField, -⟩ := r.recordAt_readBack valid hi
  obtain ⟨sigmaBack, sigmaCanonical⟩ := packQ_readBack wf.sigma wf.below
  rw [yField, sigmaField, sigmaBack]
  exact ⟨(packQ_readBack yLength yBelow).2, sigmaCanonical, wf.member⟩

/-- The k-th opened round. -/
theorem exists_opened {k : Nat} (hk : k < p.T - p.W) : ∃ i < p.T, (openedRounds r.b)[k]? = some i := by
  have opened := List.getElem?_eq_getElem (hk.trans_eq (r.opened_length valid).symm)
  exact ⟨_, r.opened_lt valid (List.mem_of_getElem? opened), opened⟩

include hroot hsalt seeds digests

theorem fieldSizes : FieldSizes p salt (roundsDigest01 X p r.rounds)
    (roundsDigestB X p salt msg r.Wm r.rounds r.betas) (disclosureField X p root salt r.b)
    (proofField X p (r.rounds.map (·.cmt0)) r.b) where
  salt := hsalt
  d01 := hashOf_length ..
  db := hashOf_length ..
  st := disclosureField_length salt hroot.le seeds
  mt := proofField_length (fun d mem => (r.cmt0_length valid d mem).le)
    ((proofCount_eq_coverCount p r.b).trans_le digests)

theorem sig_length : r.sig.length = p.sigBytes := by
  have sizes := r.fieldSizes valid hroot hsalt seeds digests
  have records : r.records.flatten.length = (p.T - p.W) * p.recBytes := by
    rw [flatten_length (r.records_each_length valid), r.records_length valid]
  have assembled : r.sig = salt ++ roundsDigest01 X p r.rounds ++ roundsDigestB X p salt msg r.Wm r.rounds r.betas ++
    disclosureField X p root salt r.b ++ proofField X p (r.rounds.map (·.cmt0)) r.b ++ r.records.flatten := rfl
  rw [assembled]
  simp only [List.length_append, sizes.salt, sizes.d01, sizes.db, sizes.st, sizes.mt, records, Params.sigBytes]
  omega

/-- Every field of the signature is the value of its rule. -/
theorem sig_fields : sigSalt p r.sig = salt ∧ sigDigest01 p r.sig = roundsDigest01 X p r.rounds ∧
    sigDigestB p r.sig = roundsDigestB X p salt msg r.Wm r.rounds r.betas ∧
    sigSt p r.sig = disclosureField X p root salt r.b ∧
    sigMt p r.sig = proofField X p (r.rounds.map (·.cmt0)) r.b :=
  (r.fieldSizes valid hroot hsalt seeds digests).readBack r.records.flatten

/-- The record at the place of an opened round is that round's. -/
theorem sigRecord_eq {k i : Nat} (opened : (openedRounds r.b)[k]? = some i) : sigRecord p r.sig k = r.recordAt i := by
  have inside : k < r.records.length := by
    obtain ⟨hk, -⟩ := List.getElem?_eq_some_iff.mp opened
    rwa [records, List.length_map]
  have item := itemAt_flatten_append (r.records_each_length valid) [] inside
  rw [List.append_nil] at item
  refine ((r.fieldSizes valid hroot hsalt seeds digests).record r.records.flatten k).trans (item.trans ?_)
  rw [List.getD_eq_getElem?_getD, records, List.getElem?_map, opened, Option.map_some, Option.getD_some]

end Fields

end SignerRun

/-- Settles O56: the fields are those of the run the signature comes from; a record packs a response and a masked secret
below Q, and the masked secret is powers of g. -/
theorem signatureHasTheLayout : Obligations.SignatureHasTheLayout := by
  intro X p tries ms root salt msg b sig valid hroot hsalt signed seeds digests
  obtain ⟨r, rfl, rfl⟩ := signature_eq_some_iff.mp signed
  obtain ⟨saltField, d01Field, dbField, stField, mtField⟩ := r.sig_fields valid hroot hsalt seeds digests
  refine ⟨r.sig_length valid hroot hsalt seeds digests, saltField, dbField ▸ r.revealed, r.b_length valid,
    r.ones_b valid, stField, ⟨r.V, r.Wm, r.short, r.betas, r.rounds, r.ys, ?values⟩, fun k hk => ?canonical⟩
  case values =>
    rw [d01Field, dbField, mtField]
    refine ⟨r.matrices, r.secret, r.rounds_length, fun i hi => r.rounds_getElem? hi, rfl, r.challenged, r.ys_length,
      fun i round here => r.ys_getElem? here, rfl, rfl, fun k hk => ?_⟩
    obtain ⟨i, hi, opened⟩ := r.exists_opened valid hk
    exact ⟨i, r.round i, opened, r.rounds_getElem?_round hi, r.sigRecord_eq valid hroot hsalt seeds digests opened⟩
  case canonical =>
    obtain ⟨i, hi, opened⟩ := r.exists_opened valid hk
    rw [r.sigRecord_eq valid hroot hsalt seeds digests opened]
    exact r.recordAt_canonical valid hi

end Sys2Proof.Machine
end

section
/-! VERIFY's judgement: the rounds it checks, its failure classes and its two digests (47_protocol R394 to R398;
60_exceptions R457). Settles O58. -/

namespace Sys2Proof.Machine

/-! ### Places of the opened rounds (00_scope R21) -/

theorem openedRounds_nodup (b : List Bool) : (openedRounds b).Nodup := List.nodup_range.filter _

theorem mem_openedRounds_iff {b : List Bool} {i : Nat} :
    i ∈ openedRounds b ↔ i < b.length ∧ b.getD i false = false := by
  rw [openedRounds, List.mem_filter, List.mem_range, Bool.not_eq_true']

/-- The place of an opened round is the index of its record. -/
theorem idxOf_openedRounds {b : List Bool} {k i : Nat} (opened : (openedRounds b)[k]? = some i) :
    (openedRounds b).idxOf i = k := by
  obtain ⟨hk, rfl⟩ := List.getElem?_eq_some_iff.mp opened
  exact (openedRounds_nodup b).idxOf_getElem k hk

/-! ### The rounds of VERIFY (47_protocol R395 to R397) -/

section Judgement

variable {X : Bytes → Nat → Byte} {p : Params} {tries : Nat} {pk msg sig : Bytes} {V Wm betas : List Nat}
  {b : List Bool} {v : Verdict}

theorem hiddenRound_eq_some_iff {rs salt : Bytes} {beta i : Nat} {c : RoundCheck} :
    hiddenRound X p tries Wm rs salt beta i = some c ↔ ∃ mask u, roundExpand X p tries rs salt i = some (mask, u) ∧
      (⟨response p Wm mask u beta, commit1 X p rs salt i, []⟩ : RoundCheck) = c := by
  unfold hiddenRound
  constructor
  · intro ended
    split at ended
    · nomatch ended
    · next mask u expanded => exact ⟨mask, u, expanded, Option.some.inj ended⟩
  · rintro ⟨mask, u, expanded, rfl⟩
    simp only [expanded]

/-- What VERIFY derives for round i: a hidden one from its rebuilt seed, an opened one from its record. -/
def checkedRound (X : Bytes → Nat → Byte) (p : Params) (tries : Nat) (V Wm : List Nat) (pk sig : Bytes)
    (betas : List Nat) (b : List Bool) (i : Nat) : Option RoundCheck :=
  if b.getD i false then
    hiddenRound X p tries Wm ((rebuiltSeeds X p (sigSt p sig) (sigSalt p sig) b).getD i []) (sigSalt p sig)
      (betas.getD i 0) i
  else
    some (openedRound X p V Wm (unpackVec (bits p.Q) (p.N - p.K) (pk.drop p.seedBytes))
      (sigRecord p sig ((openedRounds b).idxOf i)) (sigSalt p sig) (betas.getD i 0) i)

theorem checkedRound_of_hidden {i : Nat} (hidden : b.getD i false = true) :
    checkedRound X p tries V Wm pk sig betas b i =
      hiddenRound X p tries Wm ((rebuiltSeeds X p (sigSt p sig) (sigSalt p sig) b).getD i []) (sigSalt p sig)
        (betas.getD i 0) i := if_pos hidden

theorem checkedRound_of_opened {k i : Nat} (opened : (openedRounds b)[k]? = some i) :
    checkedRound X p tries V Wm pk sig betas b i =
      some (openedRound X p V Wm (unpackVec (bits p.Q) (p.N - p.K) (pk.drop p.seedBytes)) (sigRecord p sig k)
        (sigSalt p sig) (betas.getD i 0) i) := by
  obtain ⟨-, shown⟩ := mem_openedRounds_iff.mp (List.mem_of_getElem? opened)
  rw [checkedRound, shown, if_neg Bool.false_ne_true, idxOf_openedRounds opened]

/-- The two digests of checked rounds are those of the signature (47_protocol R397). -/
def digestsMatch (X : Bytes → Nat → Byte) (p : Params) (sig dch1 : Bytes) (b : List Bool) (rounds : List RoundCheck) :
    Bool :=
  digest01 X p (recomputedRoot X p (rounds.map (·.cmt0)) (sigMt p sig) b) (rounds.map (·.cmt1)) == sigDigest01 p sig &&
    digestB X p (rounds.map (·.y)) dch1 == sigDigestB p sig

theorem digestsAgree_eq_some_iff {dch1 : Bytes} {agree : Bool} :
    digestsAgree X p tries V Wm pk sig dch1 betas b = some agree ↔ ∃ rounds : List RoundCheck, rounds.length = p.T ∧
      (∀ i < p.T, rounds[i]? = checkedRound X p tries V Wm pk sig betas b i) ∧
      digestsMatch X p sig dch1 b rounds = agree := by
  simp only [digestsAgree]
  constructor
  · intro ended
    split at ended
    · nomatch ended
    · next rounds answered =>
      obtain ⟨length, each⟩ := allSome_map_range_iff.mp answered
      exact ⟨rounds, length, each, Option.some.inj ended⟩
  · rintro ⟨rounds, length, each, rfl⟩
    have answered := allSome_map_range_iff.mpr ⟨length, each⟩
    unfold checkedRound at answered
    simp only [answered, digestsMatch]

/-! ### The verdict (47_protocol R394) -/

/-- The derivations that VERIFY starts with have ended. -/
structure Derived (X : Bytes → Nat → Byte) (p : Params) (tries : Nat) (pk msg sig : Bytes) (V Wm betas : List Nat)
    (b : List Bool) : Prop where
  matrices : expandPublic X p tries (pk.take p.seedBytes) = some (V, Wm)
  challenged : challenges X p tries (challengeDigest X p msg (sigDigest01 p sig) (sigSalt p sig)) = some betas
  revealed : expandBitmap X p tries (sigDigestB p sig) = some b

theorem exists_derived (judged : judge X p tries pk msg sig = some v) :
    ∃ V Wm betas b, Derived X p tries pk msg sig V Wm betas b := by
  simp only [judge] at judged
  split at judged
  · next V Wm betas b matrices challenged revealed => exact ⟨V, Wm, betas, b, matrices, challenged, revealed⟩
  · nomatch judged

/-- The verdict is what the examination finds; the digests are compared when it finds nothing. -/
theorem Derived.judge_eq_some_iff (derived : Derived X p tries pk msg sig V Wm betas b) :
    judge X p tries pk msg sig = some v ↔
      ((examine p pk sig b).accepts = false ∧ { examine p pk sig b with commitment := true } = v) ∨
      ((examine p pk sig b).accepts = true ∧ ∃ agree,
        digestsAgree X p tries V Wm pk sig (challengeDigest X p msg (sigDigest01 p sig) (sigSalt p sig)) betas b =
          some agree ∧ { examine p pk sig b with commitment := !agree } = v) := by
  simp only [judge, derived.matrices, derived.challenged, derived.revealed]
  cases found : (examine p pk sig b).accepts with
  | false => simp
  | true =>
    cases digestsAgree X p tries V Wm pk sig (challengeDigest X p msg (sigDigest01 p sig) (sigSalt p sig)) betas b <;>
      simp

theorem examine_accepts_iff : (examine p pk sig b).accepts = true ↔ (examine p pk sig b).malformed = false ∧
    (examine p pk sig b).membership = false ∧ (examine p pk sig b).structural = false := by
  simp only [Verdict.accepts, examine, Bool.not_false, Bool.and_true, Bool.and_eq_true, Bool.not_eq_true', and_assoc]

/-- The examination's three classes stand in the verdict, any of them with COMMITMENT. -/
theorem Derived.classes (derived : Derived X p tries pk msg sig V Wm betas b)
    (judged : judge X p tries pk msg sig = some v) :
    v.malformed = (examine p pk sig b).malformed ∧ v.membership = (examine p pk sig b).membership ∧
      v.structural = (examine p pk sig b).structural ∧
      ((examine p pk sig b).accepts = false → v.commitment = true) := by
  rcases derived.judge_eq_some_iff.mp judged with ⟨-, rfl⟩ | ⟨accepts, agree, -, rfl⟩
  · exact ⟨rfl, rfl, rfl, fun _ => rfl⟩
  · exact ⟨rfl, rfl, rfl, fun rejects => nomatch accepts.symm.trans rejects⟩

/-- A verdict with a class set has COMMITMENT set (60_exceptions R457). -/
theorem judge_commitment (judged : judge X p tries pk msg sig = some v) (rejects : v.accepts = false) :
    v.commitment = true := by
  obtain ⟨V, Wm, betas, b, derived⟩ := exists_derived judged
  obtain ⟨malformed, membership, structural, commitment⟩ := derived.classes judged
  cases accepts : (examine p pk sig b).accepts with
  | false => exact commitment accepts
  | true =>
    obtain ⟨noMalformed, noMembership, noStructural⟩ := examine_accepts_iff.mp accepts
    simpa [Verdict.accepts, malformed, membership, structural, noMalformed, noMembership, noStructural] using rejects

/-! ### The classes of the examination (47_protocol R394 steps 1, 3 and 4) -/

theorem examine_malformed_iff : (examine p pk sig b).malformed = true ↔
    packedCanonical p.Q (p.N - p.K) (pk.drop p.seedBytes) = false ∨
      ∃ k < b.count false, packedCanonical p.Q p.N (recY p (sigRecord p sig k)) = false ∨
        packedCanonical p.Q p.L (recSigma p (sigRecord p sig k)) = false := by
  simp only [examine, openedRounds_length, Bool.or_eq_true, Bool.not_eq_true', List.any_map, List.any_eq_true,
    List.mem_range, Function.comp_apply]

theorem examine_membership_iff : (examine p pk sig b).membership = true ↔
    ∃ k < b.count false, ∃ e ∈ unpackVec (bits p.Q) p.L (recSigma p (sigRecord p sig k)), p.inG e = false := by
  simp only [examine, openedRounds_length, List.any_map, List.any_eq_true, List.mem_range, Function.comp_apply,
    Bool.not_eq_true', List.all_eq_false, Bool.not_eq_true]

theorem nonZero_iff {bs : Bytes} : nonZero bs = true ↔ ∃ c ∈ bs, c ≠ 0 := by
  simp only [nonZero, List.any_eq_true, bne_iff_ne]

theorem withinBounds_iff : withinBounds p b = true ↔ coverCount p b ≤ p.stMax ∧ coverCount p b ≤ p.mtMax := by
  simp only [withinBounds, Bool.and_eq_true, decide_eq_true_iff]

theorem withinBounds_eq_false_iff : withinBounds p b = false ↔ p.stMax < coverCount p b ∨ p.mtMax < coverCount p b := by
  simp only [withinBounds, Bool.and_eq_false_iff, decide_eq_false_iff_not, Nat.not_le]

theorem examine_structural_iff : (examine p pk sig b).structural = true ↔
    p.stMax < coverCount p b ∨ p.mtMax < coverCount p b ∨
      (∃ c ∈ (sigSt p sig).drop (coverCount p b * p.seedBytes), c ≠ 0) ∨
      ∃ c ∈ (sigMt p sig).drop (coverCount p b * p.digestBytes), c ≠ 0 := by
  simp only [examine, Bool.or_eq_true, Bool.not_eq_true', withinBounds_eq_false_iff, nonZero_iff, or_assoc]

end Judgement

/-- Settles O58: the first three classes are the examination's; when it finds nothing, the digests of the checked rounds
decide COMMITMENT. -/
theorem verdictClassesNameTheFailures : Obligations.VerdictClassesNameTheFailures := by
  intro X p tries pk msg sig V Wm betas b v dch1 count item salt syndrome seed beta matrices challenged revealed judged
  have derived : Derived X p tries pk msg sig V Wm betas b := ⟨matrices, challenged, revealed⟩
  obtain ⟨malformed, membership, structural, commitment⟩ := derived.classes judged
  rw [malformed, membership, structural]
  refine ⟨examine_malformed_iff, examine_membership_iff, examine_structural_iff, fun found => commitment ?found,
    fun noMalformed noMembership noStructural => ?digests⟩
  case found =>
    rw [Bool.eq_false_iff, Ne, examine_accepts_iff]
    rintro ⟨noMalformed, noMembership, noStructural⟩
    simp [noMalformed, noMembership, noStructural] at found
  case digests =>
    have accepts := examine_accepts_iff.mpr ⟨noMalformed, noMembership, noStructural⟩
    rcases derived.judge_eq_some_iff.mp judged with ⟨rejects, -⟩ | ⟨-, agree, compared, rfl⟩
    · nomatch accepts.symm.trans rejects
    · obtain ⟨rounds, length, each, rfl⟩ := digestsAgree_eq_some_iff.mp compared
      refine ⟨rounds, length, fun i hi hidden => ?hidden, fun k i hi opened => ?opened, ?compare⟩
      case hidden =>
        have here := List.getElem?_eq_getElem (hi.trans_eq length.symm)
        obtain ⟨mask, u, expanded, check⟩ := hiddenRound_eq_some_iff.mp
          ((checkedRound_of_hidden hidden).symm.trans ((each i hi).symm.trans here))
        exact ⟨mask, u, [], expanded, here.trans (congrArg some check.symm)⟩
      case opened => exact (each i hi).trans (checkedRound_of_opened opened)
      case compare =>
        simp only [digestsMatch, Bool.not_eq_true', Bool.and_eq_false_iff, beq_eq_false_iff_ne]
        exact Iff.rfl

end Sys2Proof.Machine
end

section
/-! KEYGEN, SIGN and VERIFY on the machine: their tests, their entropy requests, what they write and what they leave
(47_protocol R392 to R394; 60_exceptions R452, R453, R457). Settles O54, O55 and O57. -/

namespace Sys2Proof.Machine

/-! ### Commands that test the parameters and their regions (60_exceptions R453) -/

/-- Either test fails with its own fault, and past both the command goes on to its result. -/
theorem exec_of_regions {i : Instr} {s : State} {rs : List Region} {r : Result}
    (run : exec i s = runCommand i s [s.paramCheck, s.addrCheck rs] r) :
    (s.params.valid ≠ true → FaultsWith i s .param) ∧
      (s.params.valid = true → ¬Fits s rs → FaultsWith i s .addr) ∧
      (s.params.valid = true → Fits s rs → exec i s = runCommand i s [] r) := by
  refine ⟨fun invalid => ?param, fun valid outside => ?addr, fun valid fits => ?passed⟩
  case param =>
    exact run.trans (runCommand_fault i s r (firstFault_cons_false _ _ (Bool.eq_false_iff.mpr invalid)))
  case addr =>
    exact run.trans (runCommand_fault i s r
      ((firstFault_cons_true _ _ valid).trans (firstFault_cons_false _ _ (State.fitsAll_fails outside))))
  case passed =>
    have passed : firstFault [s.paramCheck, s.addrCheck rs] = none :=
      (firstFault_cons_true _ _ valid).trans (firstFault_cons_true _ _ ((s.fitsAll_iff rs).mpr fits))
    exact run.trans (by simp only [runCommand, passed, firstFault_nil])

/-- A write of a listed region keeps the frame. -/
theorem Kept.thenWriteBytes {e : Writes} {s u : State} (kept : Kept e s u) {addr : Nat} {bs : Bytes}
    (listed : (addr, bs.length) ∈ e.regions) : Kept e s (u.writeBytes addr bs) :=
  { kept with
    bytes := fun a outside => (u.byteAt_writeBytes_outside bs (outside _ listed)).trans (kept.bytes a outside) }

/-- Clearing the context keeps a frame that lists it. -/
theorem Kept.xofClear {e : Writes} {s u : State} (kept : Kept e s u) (context : e.xof = true) : Kept e s u.xofClear :=
  { kept with xof := fun no => nomatch context.symm.trans no }

theorem EffectShape.entropyNext {s u : State} (shape : EffectShape s u) : EffectShape s u.entropyNext := { shape with }

theorem EffectShape.thenWriteBytes {s u : State} (shape : EffectShape s u) (addr : Nat) (bs : Bytes) :
    EffectShape s (u.writeBytes addr bs) :=
  { shape with wf := fun wf => Memory.write_wf (shape.wf wf) addr bs }

theorem EffectShape.xofClear {s u : State} (shape : EffectShape s u) : EffectShape s u.xofClear := { shape with }

/-! ### KEYGEN (47_protocol R392) -/

section Keygen

variable {s : State} {a b : Reg}

/-- The regions of KEYGEN: the public key and the secret key. -/
def keygenRegions (s : State) (a b : Reg) : List Region :=
  [(s.val a, s.params.pkBytes), (s.val b, s.params.seedBytes)]

theorem exec_keygen_unavailable (valid : s.params.valid = true) (fits : Fits s (keygenRegions s a b))
    (asked : s.entropyAnswer s.params.seedBytes = none) :
    exec (.keygen a b) s = .next (s.entropyNext.takeFault .entropy (encode (.keygen a b))) := by
  obtain ⟨-, -, passed⟩ := exec_of_regions (i := .keygen a b) (execKeygen.eq_def a b s)
  have run := passed valid fits
  simp only [asked] at run
  exact run

theorem exec_keygen_pending (valid : s.params.valid = true) (fits : Fits s (keygenRegions s a b)) {ms : Bytes}
    (asked : s.entropyAnswer s.params.seedBytes = some ms) (stuck : publicKey s.xof s.params s.attempts ms = none) :
    exec (.keygen a b) s = .next (s.stayBusy (encode (.keygen a b))) := by
  obtain ⟨-, -, passed⟩ := exec_of_regions (i := .keygen a b) (execKeygen.eq_def a b s)
  have run := passed valid fits
  simp only [asked, stuck] at run
  exact run

/-- The public key is written, then the secret key over it. -/
theorem keygen_completes (wf : Memory.wf s.buf) (valid : s.params.valid = true) (fits : Fits s (keygenRegions s a b))
    {ms pk : Bytes} (asked : s.entropyAnswer s.params.seedBytes = some ms)
    (key : publicKey s.xof s.params s.attempts ms = some pk) :
    Completes (.keygen a b) s { regions := keygenRegions s a b, xof := true, entropy := true } (fun t =>
      (∀ j, ∀ h : j < pk.length, Outside [(s.val b, s.params.seedBytes)] (s.val a + j) →
        t.byteAt (s.val a + j) = pk[j]) ∧
      Holds t (s.val b) ms ∧ ContextReset t ∧ t.entropyIn = s.entropyIn.tail ∧ t.entropyCount = s.entropyCount + 1) := by
  have msLength := State.entropyAnswer_length asked
  have pkLength := publicKey_length key
  obtain ⟨-, -, passed⟩ := exec_of_regions (i := .keygen a b) (execKeygen.eq_def a b s)
  have run := passed valid fits
  simp only [asked, key] at run
  have wfPk : Memory.wf (s.entropyNext.writeBytes (s.val a) pk).buf := Memory.write_wf wf _ _
  have kept : Kept { regions := keygenRegions s a b, xof := true, entropy := true } s
      ((s.entropyNext.writeBytes (s.val a) pk).writeBytes (s.val b) ms).xofClear :=
    ((((Kept.self _ s).entropyNext rfl).thenWriteBytes (by simp [keygenRegions, pkLength])).thenWriteBytes
      (by simp [keygenRegions, msLength])).xofClear rfl
  have shape := (((EffectShape.refl s).entropyNext.thenWriteBytes (s.val a) pk).thenWriteBytes (s.val b) ms).xofClear
  refine completes_of_runCommand run firstFault_nil shape kept
    ⟨fun j inside outside => ?publicKey, ?secretKey, ⟨rfl, rfl, rfl⟩, rfl, rfl⟩
  case publicKey =>
    have apart := outside _ List.mem_cons_self
    rw [← msLength] at apart
    exact (State.byteAt_writeBytes_outside (s.entropyNext.writeBytes (s.val a) pk) ms apart).trans
      (State.byteAt_writeBytes_inside (s := s.entropyNext) wf (s.val a) pk inside)
  case secretKey =>
    exact fun j inside =>
      State.byteAt_writeBytes_inside (s := s.entropyNext.writeBytes (s.val a) pk) wfPk (s.val b) ms inside

end Keygen

/-- Settles O54: past its tests KEYGEN asks for the master seed, and its public key is what the spec derives from it. -/
theorem keygenWritesTheKeyPair : Obligations.KeygenWritesTheKeyPair := by
  intro s a b wf p seeds
  obtain ⟨param, addr, -⟩ := exec_of_regions (i := .keygen a b) (execKeygen.eq_def a b s)
  refine ⟨wordOf_of_row rfl (by decide), param, addr, fun valid fits =>
    ⟨exec_keygen_unavailable valid fits, fun ms V Wm short asked matrices secret => ?keys⟩⟩
  have halves : expandMaster s.xof p ms = ((seeds ms).take p.seedBytes, (seeds ms).drop p.seedBytes) :=
    expandMaster_eq s.xof p ms
  have key : publicKey s.xof p s.attempts ms = some ((seeds ms).take p.seedBytes ++
      packVec (bits p.Q) (p.syn V (p.embVec (p.expand Wm short)))) :=
    publicKey_eq_some_iff.mpr ⟨V, Wm, short, by rwa [halves], by rwa [halves], by rw [halves]; rfl⟩
  exact (keygen_completes wf valid fits asked key).weaken fun t ⟨written, rest⟩ =>
    ⟨publicKey_length key, written, rest⟩

/-! ### SIGN (47_protocol R393) -/

section Sign

variable {s : State} {a b c d : Reg}

/-- The regions of SIGN: the signature, the secret key and the message. -/
def signRegions (s : State) (a b c d : Reg) : List Region :=
  [(s.val a, s.params.sigBytes), (s.val b, s.params.skBytes), (s.val c, s.val d)]

/-- What SIGN computes after its entropy requests. -/
def State.signed (s : State) (b c d : Reg) (root salt : Bytes) : Option (List Bool × Bytes) :=
  signature s.xof s.params s.attempts (s.readBytes (s.val b) s.params.seedBytes) root salt
    (s.readBytes (s.val c) (s.val d))

variable (valid : s.params.valid = true) (fits : Fits s (signRegions s a b c d))
include valid fits

theorem exec_sign_noRoot (asked : s.entropyAnswer s.params.seedBytes = none) :
    exec (.sign a b c d) s = .next (s.entropyNext.takeFault .entropy (encode (.sign a b c d))) := by
  obtain ⟨-, -, passed⟩ := exec_of_regions (i := .sign a b c d) (execSign.eq_def a b c d s)
  have run := passed valid fits
  simp only [asked] at run
  exact run

variable {root : Bytes} (askedRoot : s.entropyAnswer s.params.seedBytes = some root)
include askedRoot

theorem exec_sign_noSalt (asked : s.entropyNext.entropyAnswer s.params.saltBytes = none) :
    exec (.sign a b c d) s = .next (s.entropyNext.entropyNext.takeFault .entropy (encode (.sign a b c d))) := by
  obtain ⟨-, -, passed⟩ := exec_of_regions (i := .sign a b c d) (execSign.eq_def a b c d s)
  have run := passed valid fits
  simp only [askedRoot, asked] at run
  exact run

variable {salt : Bytes} (askedSalt : s.entropyNext.entropyAnswer s.params.saltBytes = some salt)
include askedSalt

theorem exec_sign_pending (stuck : s.signed b c d root salt = none) :
    exec (.sign a b c d) s = .next (s.stayBusy (encode (.sign a b c d))) := by
  obtain ⟨-, -, passed⟩ := exec_of_regions (i := .sign a b c d) (execSign.eq_def a b c d s)
  have run := passed valid fits
  unfold State.signed at stuck
  simp only [askedRoot, askedSalt, stuck] at run
  exact run

variable {bm : List Bool} {sig : Bytes} (signed : s.signed b c d root salt = some (bm, sig))
include signed

theorem exec_sign_bound (exceeds : withinBounds s.params bm = false) :
    exec (.sign a b c d) s = .next (s.entropyNext.entropyNext.takeFault .bound (encode (.sign a b c d))) := by
  obtain ⟨-, -, passed⟩ := exec_of_regions (i := .sign a b c d) (execSign.eq_def a b c d s)
  have run := passed valid fits
  unfold State.signed at signed
  simp only [askedRoot, askedSalt, signed, exceeds, Bool.false_eq_true, if_false] at run
  exact run

omit fits in
theorem signed_length (within : withinBounds s.params bm = true) : sig.length = s.params.sigBytes := by
  obtain ⟨seeds, digests⟩ := withinBounds_iff.mp within
  obtain ⟨r, rfl, rfl⟩ := signature_eq_some_iff.mp signed
  exact r.sig_length valid (State.entropyAnswer_length askedRoot) (State.entropyAnswer_length askedSalt) seeds digests

theorem sign_completes (wf : Memory.wf s.buf) (within : withinBounds s.params bm = true) :
    Completes (.sign a b c d) s
      { regions := [(s.val a, s.params.sigBytes)], xof := true, entropy := true } (fun t =>
        sig.length = s.params.sigBytes ∧ Holds t (s.val a) sig ∧ ContextReset t ∧
          t.entropyIn = s.entropyIn.tail.tail ∧ t.entropyCount = s.entropyCount + 2) := by
  have length := signed_length valid askedRoot askedSalt signed within
  obtain ⟨-, -, passed⟩ := exec_of_regions (i := .sign a b c d) (execSign.eq_def a b c d s)
  have run := passed valid fits
  unfold State.signed at signed
  simp only [askedRoot, askedSalt, signed, within, if_true] at run
  have kept : Kept { regions := [(s.val a, s.params.sigBytes)], xof := true, entropy := true } s
      (s.entropyNext.entropyNext.writeBytes (s.val a) sig).xofClear :=
    ((((Kept.self _ s).entropyNext rfl).entropyNext rfl).thenWriteBytes (by simp [length])).xofClear rfl
  have shape := ((EffectShape.refl s).entropyNext.entropyNext.thenWriteBytes (s.val a) sig).xofClear
  exact completes_of_runCommand run firstFault_nil shape kept
    ⟨length, fun j inside => State.byteAt_writeBytes_inside (s := s.entropyNext.entropyNext) wf (s.val a) sig inside,
      ⟨rfl, rfl, rfl⟩, rfl, rfl⟩

end Sign

/-- Settles O55: past its tests SIGN asks for the root, then for the salt, and writes the signature when its bitmap is
within both bounds. -/
theorem signWritesTheSignature : Obligations.SignWritesTheSignature := by
  intro s a b c d wf p i regions
  obtain ⟨param, addr, -⟩ := exec_of_regions (i := .sign a b c d) (execSign.eq_def a b c d s)
  refine ⟨wordOf_of_row rfl (by decide), param, addr, fun valid fits => ⟨exec_sign_noRoot valid fits, fun root askedRoot =>
    ⟨exec_sign_noSalt valid fits askedRoot, fun salt bm sig askedSalt signed => ⟨fun exceeds => ?bound,
      fun seeds digests => ?signature⟩⟩⟩⟩
  case bound => exact exec_sign_bound valid fits askedRoot askedSalt signed (withinBounds_eq_false_iff.mpr exceeds)
  case signature =>
    exact sign_completes valid fits askedRoot askedSalt signed wf (withinBounds_iff.mpr ⟨seeds, digests⟩)

/-! ### VERIFY (47_protocol R394) -/

/-- VFAIL shows one bit per class and no other (10_state R49). -/
theorem Verdict.toWord_getLsbD (v : Verdict) :
    v.toWord.getLsbD 0 = v.malformed ∧ v.toWord.getLsbD 1 = v.membership ∧ v.toWord.getLsbD 2 = v.commitment ∧
      v.toWord.getLsbD 3 = v.structural ∧ ∀ k, 4 ≤ k → v.toWord.getLsbD k = false := by
  have bits : ∀ a b c d : Bool, (⟨a, b, c, d⟩ : Verdict).toWord.getLsbD 0 = a ∧
      (⟨a, b, c, d⟩ : Verdict).toWord.getLsbD 1 = b ∧ (⟨a, b, c, d⟩ : Verdict).toWord.getLsbD 2 = c ∧
      (⟨a, b, c, d⟩ : Verdict).toWord.getLsbD 3 = d := by decide
  have small : v.toWord.toNat < 2 ^ 4 := by
    obtain ⟨a, b, c, d⟩ := v
    revert a b c d
    decide
  obtain ⟨malformed, membership, commitment, structural⟩ := bits v.malformed v.membership v.commitment v.structural
  exact ⟨malformed, membership, commitment, structural, fun k high =>
    Nat.testBit_lt_two_pow (small.trans_le (Nat.pow_le_pow_right (by decide) high))⟩

theorem Verdict.accepts_iff_toWord (v : Verdict) : v.accepts = true ↔ v.toWord = 0 := by
  refine ⟨Verdict.toWord_of_accepts, fun zero => ?_⟩
  obtain ⟨malformed, membership, commitment, structural, -⟩ := v.toWord_getLsbD
  rw [zero] at malformed membership commitment structural
  simp [Verdict.accepts, ← malformed, ← membership, ← commitment, ← structural]

theorem State.conclude_kept (s : State) (v : Verdict) :
    Kept { flags := [0], vfail := true, xof := true } s (s.conclude v) :=
  { Kept.self _ s with
    flags := fun k other => by
      rw [State.conclude_flags, setBit_getLsbD, if_neg fun same => List.ne_of_not_mem_cons other same.1]
    vfail := nofun
    xof := nofun }

theorem State.conclude_acc (s : State) (v : Verdict) : (s.conclude v).acc = v.accepts := by
  rw [State.acc, State.conclude_flags, setBit_getLsbD]
  exact if_pos (by decide)

/-- A command past its tests that concludes with a verdict completes with it. -/
theorem conclude_completes {i : Instr} {s : State} {v : Verdict}
    (run : exec i s = runCommand i s [] (.effect (s.conclude v))) :
    Completes i s { flags := [0], vfail := true, xof := true } (fun t =>
      t.acc = v.accepts ∧ t.vfail = v.toWord ∧ ContextReset t) :=
  completes_of_runCommand run firstFault_nil { EffectShape.refl s with } (s.conclude_kept v)
    ⟨s.conclude_acc v, rfl, rfl, rfl, rfl⟩

section Verify

variable {s : State} {a b c d e : Reg}

/-- The regions of VERIFY that it always tests: the public key and the message. -/
def verifyRegions (s : State) (b c d : Reg) : List Region := [(s.val b, s.params.pkBytes), (s.val c, s.val d)]

/-- The verdict of VERIFY on a signature of the right length. -/
def State.judged (s : State) (b c d e : Reg) : Option Verdict :=
  judge s.xof s.params s.attempts (s.readBytes (s.val b) s.params.pkBytes) (s.readBytes (s.val c) (s.val d))
    (s.readBytes (s.val e) s.params.sigBytes)

/-- A signature of the wrong length is Malformed, and its region is not tested. -/
theorem exec_verify_of_wrongLength (wrong : s.val a ≠ s.params.sigBytes) :
    exec (.verify a b c d e) s = runCommand (.verify a b c d e) s [s.paramCheck, s.addrCheck (verifyRegions s b c d)]
      (.effect (s.conclude ⟨true, false, true, false⟩)) := by
  refine (execVerify.eq_def a b c d e s).trans ?_
  simp only [wrong, decide_false, Bool.false_eq_true, if_false, List.append_nil]
  rfl

variable (sized : s.val a = s.params.sigBytes)
include sized

theorem exec_verify_of_pending (stuck : s.judged b c d e = none) :
    exec (.verify a b c d e) s = runCommand (.verify a b c d e) s
      [s.paramCheck, s.addrCheck (verifyRegions s b c d ++ [(s.val e, s.params.sigBytes)])] .pending := by
  unfold State.judged at stuck
  refine (execVerify.eq_def a b c d e s).trans ?_
  simp only [sized, decide_true, if_true, stuck]
  rfl

theorem exec_verify_of_judged {v : Verdict} (judged : s.judged b c d e = some v) :
    exec (.verify a b c d e) s = runCommand (.verify a b c d e) s
      [s.paramCheck, s.addrCheck (verifyRegions s b c d ++ [(s.val e, s.params.sigBytes)])]
      (.effect (s.conclude v)) := by
  unfold State.judged at judged
  refine (execVerify.eq_def a b c d e s).trans ?_
  simp only [sized, decide_true, if_true, judged]
  rfl

/-- Whatever the verdict, VERIFY on a signature of the right length runs behind the same tests. -/
theorem exists_exec_verify : ∃ r, exec (.verify a b c d e) s = runCommand (.verify a b c d e) s
    [s.paramCheck, s.addrCheck (verifyRegions s b c d ++ [(s.val e, s.params.sigBytes)])] r := by
  cases judged : s.judged b c d e with
  | none => exact ⟨_, exec_verify_of_pending sized judged⟩
  | some v => exact ⟨_, exec_verify_of_judged sized judged⟩

end Verify

/-- Settles O57: the length decides which regions are tested, and the verdict is concluded in VFAIL and ACC. -/
theorem verifyWritesItsVerdict : Obligations.VerifyWritesItsVerdict := by
  intro s a b c d e p i regions
  refine ⟨wordOf_of_row rfl (by decide), fun invalid => ?param, fun valid wrong => ?wrong, fun valid sized => ?sized⟩
  case param =>
    by_cases sized : s.val a = p.sigBytes
    · obtain ⟨r, run⟩ := exists_exec_verify (b := b) (c := c) (d := d) (e := e) sized
      exact (exec_of_regions run).1 invalid
    · exact (exec_of_regions (exec_verify_of_wrongLength sized)).1 invalid
  case wrong =>
    obtain ⟨-, addr, passed⟩ := exec_of_regions (exec_verify_of_wrongLength (b := b) (c := c) (d := d) (e := e) wrong)
    refine ⟨addr valid, fun fits => (conclude_completes (passed valid fits)).weaken fun t ⟨acc, vfail, reset⟩ => ?_⟩
    exact ⟨acc, vfail, reset⟩
  case sized =>
    obtain ⟨r, run⟩ := exists_exec_verify (b := b) (c := c) (d := d) (e := e) sized
    refine ⟨(exec_of_regions run).2.1 valid, fun fits => ⟨fun stuck => ?_, fun v judged => ?_⟩⟩
    · obtain ⟨-, -, passed⟩ := exec_of_regions (exec_verify_of_pending sized stuck)
      exact (passed valid fits).trans (runCommand_pending i s firstFault_nil)
    · obtain ⟨-, -, passed⟩ := exec_of_regions (exec_verify_of_judged sized judged)
      refine (conclude_completes (passed valid fits)).weaken fun t ⟨acc, vfail, reset⟩ => ?_
      obtain ⟨malformed, membership, commitment, structural, reserved⟩ := v.toWord_getLsbD
      rw [acc, vfail]
      refine ⟨malformed, membership, commitment, structural, reserved, v.accepts_iff_toWord, fun set => ?_, reset⟩
      rw [commitment]
      exact judge_commitment judged (Bool.eq_false_iff.mpr (mt v.accepts_iff_toWord.mp set))

end Sys2Proof.Machine
end

section
/-! Completeness: the rounds VERIFY derives from a signature are the signer's, so the digests agree and nothing is found
wrong (47_protocol R401). Settles O59. -/

namespace Sys2Proof.Machine

/-! ### Masking and unmasking vectors (41_scalar R181; 42_vector R212 to R215) -/

theorem addMod_subMod {m a b : Nat} (h : b ≤ a + m) : addMod m (subMod m a b) b = a % m := by
  unfold addMod subMod
  split
  case isTrue le => rw [Nat.sub_add_cancel le]
  case isFalse => rw [Nat.sub_add_cancel h, Nat.add_mod_right]

/-- Subtracting a multiple from a scaled combination gives back what it was added to. -/
theorem subMod_scaled {m a : Nat} (ha : a < m) (beta b : Nat) : subMod m ((a + beta * b) % m) (mulMod m beta b) = a := by
  have below : mulMod m beta b < m := Nat.mod_lt _ (Nat.zero_lt_of_lt ha)
  rw [← Nat.add_mod_mod, ← mulMod]
  generalize mulMod m beta b = c at below ⊢
  unfold subMod
  rcases Nat.lt_or_ge (a + c) m with small | large
  · rw [Nat.mod_eq_of_lt small, if_pos (Nat.le_add_left ..), Nat.add_sub_cancel]
  · rw [Nat.mod_eq_sub_mod large, Nat.mod_eq_of_lt (by omega), if_neg (by omega)]
    omega

theorem subVec_scaVec {m : Nat} {us vs : List Nat} (beta : Nat) (length : us.length = vs.length)
    (below : allBelow m us = true) : subVec m (scaVec m beta us vs) (vs.map (mulMod m beta)) = us := by
  refine List.ext_getElem (by simp [subVec, scaVec, length]) fun i _ hi => ?_
  simp only [subVec, scaVec, List.getElem_zipWith, List.getElem_map]
  exact subMod_scaled (allBelow_iff.mp below _ (List.getElem_mem hi)) beta _

theorem mulVec_scaVec (m beta : Nat) (fs us vs : List Nat) :
    mulVec m fs (scaVec m beta us vs) = scaVec m beta (mulVec m fs us) (mulVec m fs vs) := by
  refine List.ext_getElem (by simp [mulVec, scaVec]; omega) fun i _ _ => ?_
  simp only [mulVec, scaVec, mulMod, List.getElem_zipWith]
  rw [← ZMod.natCast_eq_natCast_iff']
  simp only [Nat.cast_add, Nat.cast_mul, ZMod.natCast_mod]
  ring

section ValidParameters

variable {p : Params} (valid : p.valid = true)
include valid

/-- The powers of a difference times the powers of what was subtracted. -/
theorem mulVec_embVec_subVec {es ms : List Nat} (length : es.length = ms.length) (below : ∀ e ∈ ms, e < p.Z) :
    mulVec p.Q (p.embVec (subVec p.Z es ms)) (p.embVec ms) = p.embVec es := by
  refine List.ext_getElem (by simp [mulVec, Params.embVec, subVec, length]) fun i hi _ => ?_
  have inside : i < ms.length := by simp only [mulVec, Params.embVec, List.length_zipWith, List.length_map] at hi; omega
  have small := (below _ (List.getElem_mem inside)).le
  simp only [mulVec, Params.embVec, subVec, List.getElem_zipWith, List.getElem_map]
  rw [← Params.emb_addMod valid, addMod_subMod (small.trans (Nat.le_add_left ..)), Params.emb_mod valid]

theorem map_dlog_embVec {es : List Nat} (below : ∀ e ∈ es, e < p.Z) : (p.embVec es).map p.dlog = es :=
  (List.map_map ..).trans
    ((List.map_congr_left fun e mem => Params.dlog_emb valid (below e mem)).trans (List.map_id es))

omit valid in
theorem subVec_lt {es ms : List Nat} (below : ∀ e ∈ es, e < p.Z) : ∀ e ∈ subVec p.Z es ms, e < p.Z := by
  rw [subVec, ← List.map_uncurry_zip_eq_zipWith]
  exact List.forall_mem_map.mpr fun _ mem => subMod_lt (below _ (List.of_mem_zip mem).1)

/-- The syndrome VERIFY computes for an opened round is that of the signer's masked vector (47_protocol R387, R390,
R396). -/
theorem syn_response (V Wm : List Nat) {short mask u : List Nat} (beta : Nat) (hshort : short.length = p.L)
    (hmask : mask.length = p.L) (below : ∀ e ∈ mask, e < p.Z) (hu : u.length = p.N) :
    let sigma := p.embVec (p.expand Wm (subVec p.Z short mask))
    subVec p.Q (p.syn V (mulVec p.Q sigma (response p Wm mask u beta)))
      ((p.syn V (p.embVec (p.expand Wm short))).map (mulMod p.Q beta)) = p.syn V (mulVec p.Q sigma u) := by
  intro sigma
  have secretLength := Params.expand_length valid Wm hshort
  have maskLength := Params.expand_length valid Wm hmask
  have deltaLength : (subVec p.Z short mask).length = p.L := by simp [subVec, hshort, hmask]
  have unmasked : mulVec p.Q sigma (p.embVec (p.expand Wm mask)) = p.embVec (p.expand Wm short) := by
    simp only [sigma, Params.expand_subVec valid Wm hshort hmask below]
    exact mulVec_embVec_subVec valid (secretLength.trans maskLength.symm) (Params.expand_lt valid Wm hmask below)
  have blindLength : (mulVec p.Q sigma u).length = p.N := by
    simp [mulVec, sigma, Params.embVec, Params.expand_length valid Wm deltaLength, hu]
  rw [response, mulVec_scaVec, unmasked,
    Params.syn_scaVec valid V beta blindLength (by rw [Params.embVec, List.length_map, secretLength])]
  exact subVec_scaVec beta (by simp) (syn_allBelow valid V _)

/-- An opened round is checked against the signer's own commitments (47_protocol R396). -/
theorem openedRound_record {X : Bytes → Nat → Byte} {V Wm short mask u : List Nat} {rs salt : Bytes} {i : Nat} (beta : Nat)
    (hshort : short.length = p.L) (secretBelow : ∀ e ∈ short, e < p.Z) (below : ∀ e ∈ mask, e < p.Z)
    (wf : (signerRound X p V Wm short rs salt i mask u).Wf p) :
    let r := signerRound X p V Wm short rs salt i mask u
    openedRound X p V Wm (p.syn V (p.embVec (p.expand Wm short))) (record p (response p Wm mask u beta) r) salt beta i =
      ⟨response p Wm mask u beta, r.cmt1, r.cmt0⟩ := by
  intro r
  have hmask : mask.length = p.L := wf.mask
  have hu : u.length = p.N := wf.blind
  obtain ⟨yLength, yBelow⟩ := response_wf (Wm := Wm) valid hmask hu beta
  obtain ⟨-, yField, sigmaField, cmt1Field⟩ := record_readBack yLength wf
  have expanded : (if p.variant then p.embVec (p.expz Wm (r.sigma.map p.dlog)) else r.sigma) =
      p.embVec (p.expand Wm (subVec p.Z short mask)) := by
    rw [show r.sigma = p.embVec (subVec p.Z short mask) from rfl, map_dlog_embVec valid (subVec_lt secretBelow)]
    unfold Params.expand
    split <;> rfl
  simp only [openedRound, r, yField, sigmaField, cmt1Field, (packQ_readBack yLength yBelow).1,
    (packQ_readBack wf.sigma wf.below).1]
  rw [expanded, syn_response valid V Wm beta hshort hmask below hu]
  rfl

end ValidParameters

/-! ### The tree fields (45_seed_tree R324; 46_merkle R353) -/

/-- A bitmap needs no more seeds, or digests, than it has ones. -/
theorem coverCount_le_ones {p : Params} {b : List Bool} (nonempty : 1 ≤ b.length) : coverCount p b ≤ ones b := by
  cases mode : p.flat with
  | true => rw [coverCount_of_flat mode, markedRounds_length]
  | false =>
    rw [coverCount_of_tree mode, ← dset_length_add nonempty (isFull_fullNodes b)]
    exact Nat.le_add_right ..

theorem nonZero_drop_zeroFill (n : Nat) {bs : Bytes} {k : Nat} (length : bs.length = k) :
    nonZero ((zeroFill n bs).drop k) = false := by
  rw [zeroFill, List.drop_left' length, Bool.eq_false_iff, Ne, nonZero_iff]
  rintro ⟨c, mem, nonzero⟩
  exact nonzero (List.eq_of_mem_replicate mem)

/-! ### The rounds VERIFY derives from a signature (47_protocol R395 to R397) -/

namespace SignerRun

section Checks

variable {X : Bytes → Nat → Byte} {p : Params} {tries : Nat} {ms root salt msg : Bytes}
  (r : SignerRun X p tries ms root salt msg)

/-- What VERIFY derives for round i: the signer's response and commitments, the first one for an opened round only. -/
def check (i : Nat) : RoundCheck :=
  ⟨r.ys.getD i [], (r.round i).cmt1, if r.b.getD i false then [] else (r.round i).cmt0⟩

theorem rounds_eq : r.rounds = (List.range p.T).map r.round := eq_map_range_of_getD r.rounds_length fun _ _ => rfl

theorem checks_ys : ((List.range p.T).map r.check).map (·.y) = r.ys :=
  (List.map_map ..).trans (eq_map_range_of_getD r.ys_length fun _ _ => rfl).symm

theorem checks_cmt1 : ((List.range p.T).map r.check).map (·.cmt1) = r.rounds.map (·.cmt1) := by
  rw [r.rounds_eq, List.map_map, List.map_map]
  rfl

theorem checks_cmt0 {i : Nat} (hi : i < p.T) (opened : r.b.getD i false = false) :
    (((List.range p.T).map r.check).map (·.cmt0)).getD i [] = (r.rounds.map (·.cmt0)).getD i [] := by
  rw [r.rounds_eq, List.map_map, List.map_map, getD_map_range_of_lt _ _ hi, getD_map_range_of_lt _ _ hi]
  exact if_neg (Bool.eq_false_iff.mp opened)

variable (valid : p.valid = true) (hroot : root.length = p.seedBytes)
  (hsalt : salt.length = p.saltBytes) (seeds : coverCount p r.b ≤ p.stMax) (digests : coverCount p r.b ≤ p.mtMax)
include valid hroot hsalt seeds digests

theorem checkedRound_sig {pk : Bytes}
    (packed : pk.drop p.seedBytes = packQ p (p.syn r.V (p.embVec (p.expand r.Wm r.short)))) {i : Nat} (hi : i < p.T) :
    checkedRound X p tries r.V r.Wm pk r.sig r.betas r.b i = some (r.check i) := by
  obtain ⟨saltField, -, -, stField, -⟩ := r.sig_fields valid hroot hsalt seeds digests
  obtain ⟨mask, u, expanded, here⟩ := r.exists_expanded hi
  have y : r.ys.getD i [] = response p r.Wm mask u (r.betas.getD i 0) := by
    rw [List.getD_eq_getElem?_getD, r.ys_getElem? here]
    rfl
  have round := Option.some.inj ((r.rounds_getElem?_round hi).symm.trans here)
  cases hidden : r.b.getD i false with
  | true =>
    have seed := rebuiltSeeds_disclosureField X salt (r.b_length valid) hroot hi hidden
    rw [checkedRound_of_hidden hidden, stField, saltField, seed]
    refine hiddenRound_eq_some_iff.mpr ⟨mask, u, expanded, ?_⟩
    rw [check, y, round, hidden]
    rfl
  | false =>
    have mem : i ∈ openedRounds r.b := mem_openedRounds_iff.mpr ⟨hi.trans_eq (r.b_length valid).symm, hidden⟩
    obtain ⟨k, hk, rfl⟩ := List.getElem_of_mem mem
    have opened := List.getElem?_eq_getElem hk
    obtain ⟨hshort, secretBelow⟩ := expandSecret_spec r.secret
    have wf := r.round_wf valid (List.mem_of_getElem? here)
    rw [checkedRound_of_opened opened, saltField, packed,
      (packQ_readBack (syn_length ..) (syn_allBelow valid _ _)).1,
      r.sigRecord_eq valid hroot hsalt seeds digests opened, recordAt, check, y, round, hidden,
      openedRound_record valid _ hshort secretBelow (roundExpand_mask_lt expanded) wf]
    rfl

/-- Both digests of the rounds VERIFY derives are those of the signature. -/
theorem digestsMatch_sig : digestsMatch X p r.sig (challengeDigest X p msg (sigDigest01 p r.sig) (sigSalt p r.sig)) r.b
    ((List.range p.T).map r.check) = true := by
  obtain ⟨saltField, d01Field, dbField, -, mtField⟩ := r.sig_fields valid hroot hsalt seeds digests
  have merkle := recomputedRoot_proofField (X := X) (Nat.one_le_of_lt (Params.two_le_T valid)) (r.b_length valid)
    ((List.length_map _).trans r.rounds_length) (r.cmt0_length valid) fun i hi opened => r.checks_cmt0 hi opened
  rw [digestsMatch, r.checks_ys, r.checks_cmt1, mtField, merkle, d01Field, dbField, saltField, Bool.and_eq_true,
    beq_iff_eq, beq_iff_eq]
  exact ⟨rfl, rfl⟩

/-- VERIFY finds nothing wrong with the fields of a signature under the signer's public key. -/
theorem examine_sig {pk : Bytes}
    (packed : pk.drop p.seedBytes = packQ p (p.syn r.V (p.embVec (p.expand r.Wm r.short)))) :
    examine p pk r.sig r.b = ⟨false, false, false, false⟩ := by
  obtain ⟨-, -, -, stField, mtField⟩ := r.sig_fields valid hroot hsalt seeds digests
  have record : ∀ k < r.b.count false, ∃ i < p.T, sigRecord p r.sig k = r.recordAt i := fun k hk => by
    rw [← openedRounds_length, r.opened_length valid] at hk
    obtain ⟨i, hi, opened⟩ := r.exists_opened valid hk
    exact ⟨i, hi, r.sigRecord_eq valid hroot hsalt seeds digests opened⟩
  have malformed : (examine p pk r.sig r.b).malformed = false := by
    rw [Bool.eq_false_iff, Ne, examine_malformed_iff, packed,
      (packQ_readBack (syn_length ..) (syn_allBelow valid _ _)).2]
    rintro (noKey | ⟨k, hk, noRecord⟩)
    · nomatch noKey
    · obtain ⟨i, hi, same⟩ := record k hk
      obtain ⟨canonicalY, canonicalSigma, -⟩ := r.recordAt_canonical valid hi
      rw [same, canonicalY, canonicalSigma] at noRecord
      exact noRecord.elim nofun nofun
  have membership : (examine p pk r.sig r.b).membership = false := by
    rw [Bool.eq_false_iff, Ne, examine_membership_iff]
    rintro ⟨k, hk, e, mem, outside⟩
    obtain ⟨i, hi, same⟩ := record k hk
    obtain ⟨-, -, member⟩ := r.recordAt_canonical valid hi
    rw [same] at mem
    nomatch outside.symm.trans (List.all_eq_true.mp member e mem)
  have structural : (examine p pk r.sig r.b).structural = false := by
    have seedBytes := flatten_length (disclosedSeeds_each_length (X := X) (salt := salt) (r.b_length valid) hroot)
    have digestBytes := flatten_length (proofDigests_each_length (X := X)
      ((r.b_length valid).trans ((List.length_map _).trans r.rounds_length).symm) (r.cmt0_length valid))
    rw [disclosedSeeds_length] at seedBytes
    rw [proofDigests_length, proofCount_eq_coverCount] at digestBytes
    simp only [examine, withinBounds_iff.mpr ⟨seeds, digests⟩, stField, mtField, disclosureField, proofField,
      nonZero_drop_zeroFill _ seedBytes, nonZero_drop_zeroFill _ digestBytes, Bool.not_true, Bool.or_self]
  rw [examine, Verdict.mk.injEq]
  exact ⟨malformed, membership, rfl, structural⟩

end Checks

end SignerRun

/-- A signature of the signer is accepted under its public key (47_protocol R401). -/
theorem judge_signature {X : Bytes → Nat → Byte} {p : Params} {tries : Nat} {ms root salt msg pk sig : Bytes}
    {b : List Bool} (valid : p.valid = true) (hroot : root.length = p.seedBytes) (hsalt : salt.length = p.saltBytes)
    (seeds : p.W ≤ p.stMax) (digests : p.W ≤ p.mtMax) (key : publicKey X p tries ms = some pk)
    (signed : signature X p tries ms root salt msg = some (b, sig)) :
    judge X p tries pk msg sig = some ⟨false, false, false, false⟩ := by
  obtain ⟨r, rfl, rfl⟩ := signature_eq_some_iff.mp signed
  obtain ⟨V, Wm, short, matrices, secret, rfl⟩ := publicKey_eq_some_iff.mp key
  obtain ⟨rfl, rfl⟩ := Prod.mk.inj (Option.some.inj (matrices.symm.trans r.matrices))
  obtain rfl := Option.some.inj (secret.symm.trans r.secret)
  have seedLength : (expandMaster X p ms).1.length = p.seedBytes := streamBytes_length ..
  have nonempty : 1 ≤ r.b.length := (Nat.one_le_of_lt (Params.two_le_T valid)).trans_eq (r.b_length valid).symm
  have cover : coverCount p r.b ≤ p.W := (coverCount_le_ones nonempty).trans_eq (r.ones_b valid)
  have fields := r.sig_fields valid hroot hsalt (cover.trans seeds) (cover.trans digests)
  obtain ⟨saltField, d01Field, dbField, -, -⟩ := fields
  have packed := List.drop_left' (l₂ := packQ p (p.syn r.V (p.embVec (p.expand r.Wm r.short)))) seedLength
  have derived : Derived X p tries
      ((expandMaster X p ms).1 ++ packQ p (p.syn r.V (p.embVec (p.expand r.Wm r.short)))) msg r.sig r.V r.Wm r.betas r.b :=
    { matrices := by rw [List.take_left' seedLength]; exact r.matrices
      challenged := by rw [saltField, d01Field]; exact r.challenged
      revealed := by rw [dbField]; exact r.revealed }
  have found := r.examine_sig valid hroot hsalt (cover.trans seeds) (cover.trans digests) packed
  refine derived.judge_eq_some_iff.mpr (.inr ⟨by rw [found]; rfl, true, ?agree, by rw [found]; rfl⟩)
  exact digestsAgree_eq_some_iff.mpr ⟨(List.range p.T).map r.check, by simp, fun i hi => by
    rw [r.checkedRound_sig valid hroot hsalt (cover.trans seeds) (cover.trans digests) packed hi]
    simp [hi], r.digestsMatch_sig valid hroot hsalt (cover.trans seeds) (cover.trans digests)⟩

/-! ### Commands that have ended without a fault (60_exceptions R452) -/

section Ended

variable {s t : State}

theorem next_ne_takeFault {o : Host.Outcome State Fault Refusal} {u : State} {c : FaultCode} {w : Word} (run : o = .next t)
    (clean : t.err = false) : o ≠ .next (u.takeFault c w) := fun fault => by
  obtain rfl := Host.Outcome.next.inj (run.symm.trans fault)
  nomatch clean.symm.trans (u.takeFault_err c w)

theorem next_ne_stayBusy {o : Host.Outcome State Fault Refusal} {u : State} {w : Word} (run : o = .next t)
    (idle : t.running = none) : o ≠ .next (u.stayBusy w) := fun busy => by
  obtain rfl := Host.Outcome.next.inj (run.symm.trans busy)
  nomatch idle

/-- A command that did not fault had valid parameters and regions inside BUF. -/
theorem tests_of_ended {i : Instr} {rs : List Region} {r : Result}
    (tests : exec i s = runCommand i s [s.paramCheck, s.addrCheck rs] r) (run : exec i s = .next t)
    (clean : t.err = false) : s.params.valid = true ∧ Fits s rs := by
  obtain ⟨param, addr, -⟩ := exec_of_regions tests
  have valid := not_not.mp (mt param (next_ne_takeFault run clean))
  exact ⟨valid, not_not.mp (mt (addr valid) (next_ne_takeFault run clean))⟩

/-- A KEYGEN that has ended without a fault drew a master seed, and its public key was derived. -/
theorem keygen_of_ended {a b : Reg} (run : exec (.keygen a b) s = .next t) (idle : t.running = none)
    (clean : t.err = false) : s.params.valid = true ∧ Fits s (keygenRegions s a b) ∧ ∃ ms pk,
      s.entropyAnswer s.params.seedBytes = some ms ∧ publicKey s.xof s.params s.attempts ms = some pk := by
  obtain ⟨valid, fits⟩ := tests_of_ended (i := .keygen a b) (execKeygen.eq_def a b s) run clean
  obtain ⟨ms, asked⟩ := Option.ne_none_iff_exists'.mp
    (mt (exec_keygen_unavailable valid fits) (next_ne_takeFault run clean))
  obtain ⟨pk, key⟩ := Option.ne_none_iff_exists'.mp
    (mt (exec_keygen_pending valid fits asked) (next_ne_stayBusy run idle))
  exact ⟨valid, fits, ms, pk, asked, key⟩

/-- A SIGN that has ended without a fault drew a root and a salt, and its signature was within both bounds. -/
theorem sign_of_ended {a b c d : Reg} (run : exec (.sign a b c d) s = .next t) (idle : t.running = none)
    (clean : t.err = false) : s.params.valid = true ∧ Fits s (signRegions s a b c d) ∧ ∃ root salt bm sig,
      s.entropyAnswer s.params.seedBytes = some root ∧ s.entropyNext.entropyAnswer s.params.saltBytes = some salt ∧
      s.signed b c d root salt = some (bm, sig) ∧ withinBounds s.params bm = true := by
  obtain ⟨valid, fits⟩ := tests_of_ended (i := .sign a b c d) (execSign.eq_def a b c d s) run clean
  obtain ⟨root, askedRoot⟩ := Option.ne_none_iff_exists'.mp
    (mt (exec_sign_noRoot valid fits) (next_ne_takeFault run clean))
  obtain ⟨salt, askedSalt⟩ := Option.ne_none_iff_exists'.mp
    (mt (exec_sign_noSalt valid fits askedRoot) (next_ne_takeFault run clean))
  obtain ⟨⟨bm, sig⟩, signed⟩ := Option.ne_none_iff_exists'.mp
    (mt (exec_sign_pending valid fits askedRoot askedSalt) (next_ne_stayBusy run idle))
  have within := mt (exec_sign_bound valid fits askedRoot askedSalt signed) (next_ne_takeFault run clean)
  exact ⟨valid, fits, root, salt, bm, sig, askedRoot, askedSalt, signed, Bool.not_eq_false _ ▸ within⟩

end Ended

/-! ### The three commands in turn (47_protocol R401) -/

theorem State.xof_congr {s t : State} (params : t.params = s.params) (known : t.xofKnown = s.xofKnown) :
    t.xof = s.xof := by
  funext input k
  simp only [State.xof, State.xofStream, params, known]

section Machine

variable {s t : State}

/-- A KEYGEN that has ended without a fault leaves a key pair: a secret key and the public key derived from it. -/
theorem exists_keyPair {a b : Reg} (wf : Memory.wf s.buf) (run : exec (.keygen a b) s = .next t)
    (idle : t.running = none) (clean : t.err = false)
    (apart : ∀ j < s.params.pkBytes, Outside [(s.val b, s.params.skBytes)] (s.val a + j)) :
    s.params.valid = true ∧ publicKey s.xof s.params s.attempts (t.readBytes (t.val b) s.params.skBytes) =
      some (t.readBytes (t.val a) s.params.pkBytes) := by
  obtain ⟨valid, fits, ms, pk, asked, key⟩ := keygen_of_ended run idle clean
  obtain ⟨t', run', -, kept, written, secret, -⟩ := keygen_completes wf valid fits asked key
  obtain rfl := Host.Outcome.next.inj (run'.symm.trans run)
  have pkLength := publicKey_length key
  have msLength : ms.length = s.params.skBytes := State.entropyAnswer_length asked
  have pkHolds : Holds t' (s.val a) pk := fun j inside => written j inside (apart j (inside.trans_eq pkLength))
  rw [kept.val_eq List.not_mem_nil, kept.val_eq List.not_mem_nil, ← pkLength, ← msLength, pkHolds.readBytes_eq,
    secret.readBytes_eq]
  exact ⟨valid, key⟩

/-- A SIGN that has ended without a fault leaves a signature of its message under its secret key. -/
theorem exists_signature {a b c d : Reg} (wf : Memory.wf s.buf) (run : exec (.sign a b c d) s = .next t)
    (idle : t.running = none) (clean : t.err = false) :
    ∃ root salt bm, root.length = s.params.seedBytes ∧ salt.length = s.params.saltBytes ∧
      s.signed b c d root salt = some (bm, t.readBytes (t.val a) s.params.sigBytes) := by
  obtain ⟨valid, fits, root, salt, bm, sig, askedRoot, askedSalt, signed, within⟩ := sign_of_ended run idle clean
  obtain ⟨t', run', -, kept, sigLength, holds, -⟩ :=
    sign_completes valid fits askedRoot askedSalt signed wf within
  obtain rfl := Host.Outcome.next.inj (run'.symm.trans run)
  rw [kept.val_eq List.not_mem_nil, ← sigLength, holds.readBytes_eq]
  exact ⟨root, salt, bm, State.entropyAnswer_length askedRoot, State.entropyAnswer_length askedSalt, signed⟩

end Machine

/-- Settles O59: VERIFY derives the signer's rounds, and on the machine it derives them from what KEYGEN and SIGN left, with
at least their windows. -/
theorem signedMessagesVerify : Obligations.SignedMessagesVerify := by
  refine ⟨fun X p tries ms root salt msg pk b sig valid _ hroot hsalt seeds digests key signed =>
    judge_signature valid hroot hsalt seeds digests key signed, ?machine⟩
  intro s t u v w ka kb sa sb sc sd va vb vc vd ve wfS wfU p seeds digests keygen idleT _ cleanT apart paramsU knownU keyU
    sign idleV _ cleanV paramsW knownW moreS moreU pkW _ msgW sized sigW fits
  obtain ⟨valid, key⟩ := exists_keyPair wfS keygen idleT cleanT apart
  obtain ⟨root, salt, bm, hroot, hsalt, signed⟩ := exists_signature wfU sign idleV cleanV
  have accepted : w.judged vb vc vd ve = some ⟨false, false, false, false⟩ := by
    rw [paramsU] at hroot hsalt
    rw [State.signed, State.xof_congr paramsU knownU, paramsU] at signed
    rw [State.judged, State.xof_congr paramsW knownW, paramsW, pkW, msgW, sigW]
    refine judge_signature valid hroot hsalt seeds digests (publicKey_mono moreS key) (signature_mono (b := bm) moreU ?_)
    rwa [← keyU]
  have run := exec_verify_of_judged (a := va) (sized.trans (congrArg Params.sigBytes paramsW.symm)) accepted
  obtain ⟨-, -, passed⟩ := exec_of_regions run
  obtain ⟨z, verify, ended, -, acc, vfail, -⟩ := conclude_completes (passed (paramsW ▸ valid) (by
    rw [verifyRegions, paramsW]
    exact fits))
  exact ⟨z, verify, ended.busy, ended.err, acc, vfail⟩

end Sys2Proof.Machine
end
